-- ==== Sys2Proof/Word.lean ====
section
/-! DEFINITION. The words of the control link: bytes, and the numbers that name a stream slot. -/

namespace Sys2Proof

/-- One serial character of the control link (R156: 8 data bits). -/
abbrev Byte := BitVec 8

/-- A stream slot, 0 to 3 (00_scope section 4.3). "Stream n" and "slot n" mean the same context. -/
abbrev Slot := Fin 4

/-- The four slots in ascending order. -/
def slots : List Slot := [0, 1, 2, 3]

end Sys2Proof
end

