-- ==== Sys2Proof/Syntax.lean ====
section
/-! DEFINITION. The commands of the ESV-412, one constructor per row of spec/opcode_table.json, the
frames that carry requests, and the fields of each request once its frame has been read. -/

namespace Sys2Proof

/-- A complete frame as the receive buffer holds it (R157, R175): the kind byte and the body. The
frame length n of the spec is the count of kind and body bytes, `body.length + 1`. -/
structure Frame where
  kind : Byte
  body : List Byte
  deriving DecidableEq, Repr

/-- One quality level of a ladder (R25). -/
structure Rung where
  rate : Nat
  init : Nat
  deriving DecidableEq, Repr

/-- The configuration that OPEN and TUNE write into a stream context (R1). -/
structure SlotConfig where
  priority : Nat
  guardRung : Nat
  startRung : Nat
  resume : Nat
  start : Nat
  target : Nat
  refill : Nat
  high : Nat
  envelopePeriod : Nat
  autoProbe : Bool
  probeFactor : Nat
  deadlineFactor : Nat
  startTimeout : Nat
  stallTimeout : Nat
  playbackRate : Nat
  deriving DecidableEq, Repr

/-- The fields of an OPEN (R3), the short form's defaults filled in (R3, R4). -/
structure OpenReq where
  slot : Slot
  cfg : SlotConfig
  deriving DecidableEq, Repr

/-- The fields of a TUNE (R6). -/
structure TuneReq where
  slot : Slot
  envelopePeriod : Nat
  autoProbe : Bool
  probeFactor : Nat
  deadlineFactor : Nat
  startTimeout : Nat
  stallTimeout : Nat
  playbackRate : Nat
  lift : Bool
  deriving DecidableEq, Repr

/-- The fields of a LADDER (R26). -/
structure LadderReq where
  slot : Slot
  rungs : List Rung
  deriving DecidableEq, Repr

/-- One entry of an APPEND as it is read from the body (R34, R175). -/
structure AppendEntry where
  segment : Nat
  duration : Nat
  markers : Byte
  sizes : List Nat
  deriving DecidableEq, Repr

/-- The fields of an APPEND (R34). -/
structure AppendReq where
  slot : Slot
  entries : List AppendEntry
  deriving DecidableEq, Repr

/-- The four actions of PLAYCTL (R10): PLAY 1, PAUSE 2, SEEK 3, STOP 4. -/
inductive PlayAction where
  | play
  | pause
  | seek
  | stop
  deriving DecidableEq, Repr

/-- The fields of a PLAYCTL (R10). -/
structure PlayctlReq where
  slot : Slot
  action : PlayAction
  deriving DecidableEq, Repr

/-- The fields of a POSITION (R89). -/
structure PositionReq where
  slot : Slot
  segment : Nat
  offset : Nat
  deriving DecidableEq, Repr

/-- The fields of a TALLY or a LANDED (R59): a tag and a byte count. -/
structure CountReq where
  tag : Nat
  bytes : Nat
  deriving DecidableEq, Repr

/-- The fields of a LINK (R108). -/
structure LinkReq where
  rtt : Nat
  retry : Nat
  airtime : Nat
  deriving DecidableEq, Repr

/-- Three thresholds, for BUSY, CROWDED and JAMMED (R107). -/
structure Thresholds where
  busy : Nat
  crowded : Nat
  jammed : Nat
  deriving DecidableEq, Repr

/-- The fields of a LIMITS (R166). The protect threshold NONE is `none`. -/
structure LimitsReq where
  startEstimate : Nat
  linkCeiling : Nat
  slotLimit : Nat
  protect : Option Nat
  retry : Thresholds
  airtime : Thresholds
  dwell : Nat
  sagLimit : Nat
  deriving DecidableEq, Repr

/-- The fields of a MASK (R177): the device field and the four stream fields, slot 0 first. -/
structure MaskReq where
  device : BitVec 4
  stream : Vector (BitVec 11) 4
  deriving DecidableEq, Repr

/-- The three parts of the STREAM view of QUERY (R169). -/
inductive StreamPart where
  | summary
  | window
  | buffer
  deriving DecidableEq, Repr

/-- The views of QUERY (R168). -/
inductive QueryReq where
  | stream (slot : Slot) (part : StreamPart)
  | link
  | record (tag : Nat)
  deriving DecidableEq, Repr

/-- The scopes of RESTART (R172). -/
inductive RestartScope where
  | streams
  | all
  deriving DecidableEq, Repr

/-- The commands of the part: one constructor per row of spec/opcode_table.json.

A request row carries the BODY of its frame, byte for byte, so that a frame of a wrong length or with a
field out of range is a command as well and gets the refusal the spec gives it (log entry 2). An expiry
row carries the slot or the tag whose timer expires. -/
inductive Instr where
  /-- A low level on NRST that lasts at least 1 ms (R174). -/
  | nrstAssert
  /-- NRST is released, or power is applied (R174). -/
  | nrstRelease
  /-- The time base starts, 18 to 22 ms after the release (R174). -/
  | timeBaseStart
  /-- A byte on CRX; `stopLow` says that its stop bit was low (R157, R158). -/
  | receiveByte (b : Byte) (stopLow : Bool)
  /-- The gap timer expires inside a frame (R158). -/
  | gapTimerExpiry
  /-- A frame whose kind is no request kind reaches the decoder (R160). -/
  | unknownKindRequest (kind : Byte) (body : List Byte)
  /-- The idle transmitter takes the head of the transmit queue (R156). -/
  | transmitStart
  /-- The last bit of a frame's check byte has been sent (R156). -/
  | transmitComplete
  | ident (body : List Byte)
  | restartStreams (body : List Byte)
  | restartAll (body : List Byte)
  | limits (body : List Byte)
  | mask (body : List Byte)
  | flags (body : List Byte)
  | queryStream (body : List Byte)
  | queryLink (body : List Byte)
  | queryRecord (body : List Byte)
  | openSlot (body : List Byte)
  | tune (body : List Byte)
  | ladder (body : List Byte)
  | append (body : List Byte)
  | play (body : List Byte)
  | pause (body : List Byte)
  | seek (body : List Byte)
  | stop (body : List Byte)
  | close (body : List Byte)
  | position (body : List Byte)
  | probe (body : List Byte)
  | tally (body : List Byte)
  | landed (body : List Byte)
  | broken (body : List Byte)
  | link (body : List Byte)
  | startTimerExpiry (n : Slot)
  | stallTimerExpiry (n : Slot)
  | drainStep (n : Slot)
  | deadlineExpiry (tag : Nat)
  | probeDeadlineExpiry (tag : Nat)
  | sampleTimerExpiry
  | dwellExpiry
  | envelopeStepExpiry (n : Slot)
  deriving DecidableEq, Repr

end Sys2Proof
end

