-- ==== Sys2Proof/Decode.lean ====
section
/-! DEFINITION. The decoder of opcode-table words. The part is a block with no instruction words: no row of
spec/opcode_table.json gives bits, so no word spells a command. The reading of request frames, byte by byte, is in
Machine/Operands.lean. -/

namespace Sys2Proof

/-- The command a word of the opcode table spells: none, since the table gives no row any bits. -/
def decodeTableWord (_nbits _w : Nat) : Option Instr := none

end Sys2Proof
end

