-- ==== Sys2Proof/Config.lean ====
section
/-! DEFINITION. The free values of the model: what the spec leaves open and no proof may see. -/

namespace Sys2Proof

/-- The order in which the part takes things the spec gives no order for (log entry 5): two timers
that expire in the same millisecond, a transmission start beside a request waiting at the decoder,
the DROP directives of several probes when the zone enters JAMMED. The first argument is the model's
counter of such choices (`State.choices`), the second the number of things already placed; the value
is the place of the next one among them. It has no body: a statement holds for every order. -/
opaque Config.freeOrder : Nat → Nat → Nat

end Sys2Proof
end

