-- ==== Sys2Proof/Machine/State.lean ====
section
/-! DEFINITION. The state of the ESV-412 as plain data, every piece the spec gives the part, and the
state right after reset. The blocks are those of 00_scope section 2; INVENTORY.md lists each field with its
rule and its reset value. -/

namespace Sys2Proof.Machine

/-! ### Values -/

/-- NRST and the time base (R174): held in reset, released and waiting for the time base, running. -/
inductive Phase where
  | held
  | waiting
  | running
  deriving DecidableEq, Repr

/-- The seven playback states (R1, R9). -/
inductive PlayState where
  | closed
  | idle
  | starting
  | playing
  | rebuffering
  | paused
  | ended
  deriving DecidableEq, Repr

/-- The congestion zones, lowest first (R107). The raw level takes the same values. -/
inductive Zone where
  | clear
  | busy
  | crowded
  | jammed
  deriving DecidableEq, Repr

/-- The margin levels (R79). -/
inductive Margin where
  | empty
  | near1
  | near2
  | none
  deriving DecidableEq, Repr

/-- The kinds of a fetch record (R44). -/
inductive FetchKind where
  | normal
  | refetch
  | probe
  deriving DecidableEq, Repr

/-- The reasons of a GATE directive (R22). -/
inductive GateReason where
  | start
  | resume
  | pause
  | stall
  | ended
  | seek
  | stop
  | close
  deriving DecidableEq, Repr

/-- The reasons of a DROP directive (R57). -/
inductive DropReason where
  | deadline
  | rescue
  | stall
  | zone
  | seek
  | stop
  | close
  deriving DecidableEq, Repr

/-- The causes of a HELLO directive (R171). -/
inductive HelloCause where
  | powerOn
  | restart
  deriving DecidableEq, Repr

/-- The status codes of a reply (R175). -/
inductive Status where
  | ok
  | unknownKind
  | badLength
  | badField
  | noStream
  | wrongState
  | full
  | staleTag
  | busy
  | notNow
  | outOfRange
  deriving DecidableEq, Repr

/-- The four device flags, in bit order (R176). -/
inductive DeviceFlag where
  | zone
  | sag
  | frameErr
  | rxOverflow
  deriving DecidableEq, Repr

/-- The eleven flags of a stream, in bit order (R176). -/
inductive StreamFlag where
  | startLate
  | stall
  | stallLong
  | windowDry
  | margin
  | rung
  | probeDone
  | probeFail
  | abandon
  | skip
  | ended
  deriving DecidableEq, Repr

/-! ### The link port (chapter 9) -/

/-- The receiver's state (R157): in BODY the length kept and the bytes collected so far, kind first; in
CHECK all of them. -/
inductive Receiver where
  | hunt
  | length
  | body (n : Nat) (got : List Byte)
  | check (n : Nat) (got : List Byte)
  deriving DecidableEq, Repr

/-- The receive side of the link port: the receiver, its gap timer (R158) and the receive buffer, oldest
frame first (R159). -/
structure RxPort where
  receiver : Receiver
  gapTimer : Option Nat
  buffer : List Frame
  deriving DecidableEq, Repr

/-- The fields of a FETCH directive as they stood at the record's creation (R54). -/
structure FetchDirective where
  tag : Nat
  slot : Slot
  segment : Nat
  rung : Nat
  rate : Nat
  kind : FetchKind
  init : Nat
  expected : Nat
  span : Nat
  deriving DecidableEq, Repr

/-- A frame of the transmit queue (R163): a directive or a reply. A NOTE carries no content while it
waits, since its group field is composed at the start of its transmission (R179). -/
inductive TxFrame where
  | hello (cause : HelloCause)
  | fetch (d : FetchDirective)
  | drop (tag : Nat) (reason : DropReason)
  | gate (n : Slot) (opened : Bool) (reason : GateReason)
  | note
  | reply (kind : Byte) (body : List Byte)
  deriving DecidableEq, Repr

/-- The frame under transmission: its bytes, sync to check, and the line time it still needs in
microseconds (R156: 5 us a byte). -/
structure Sending where
  bytes : List Byte
  left : Nat
  deriving DecidableEq, Repr

/-- The transmit side of the link port: the transmit queue, head first (R163), and the transmitter, idle
(`none`) or sending (R156). -/
structure TxPort where
  queue : List TxFrame
  sending : Option Sending
  deriving DecidableEq, Repr

/-! ### The streams (chapters 1, 2, 4 and 8) -/

/-- The fetch state of a window entry (R29): the granted rung while IN_FLIGHT or LANDED_EARLY, the
landed bytes while LANDED_EARLY. -/
inductive EntryState where
  | waiting
  | inFlight (rung : Nat)
  | landedEarly (rung bytes : Nat)
  deriving DecidableEq, Repr

/-- An entry of a segment window (R29). -/
structure WindowEntry where
  segment : Nat
  duration : Nat
  discont : Bool
  last : Bool
  sizes : Option (List Nat)
  state : EntryState
  failures : Nat
  deriving DecidableEq, Repr

/-- An entry of a buffer queue (R70). -/
structure BufferEntry where
  segment : Nat
  rung : Nat
  duration : Nat
  remaining : Nat
  deriving DecidableEq, Repr

/-- Everything the part holds for one slot: the stream context (R1), the window store's fields (R24), the
previous grant memory (R51), the playout model's fields (R69), the rung selector's fields (R135), the share
(R120), and the slot's flags and masks (R176, R177). The occupancy B is the sum over the buffer queue
(`Stream.occupancy`) and is stored once. No ladder is the empty list; `ceiling` and `current` have no meaning
without one and are then 0. A timer is `none` when stopped, else its expiry time on the time base. -/
structure Stream where
  state : PlayState
  gate : Bool
  cfg : SlotConfig
  startTimer : Option Nat
  stallTimer : Option Nat
  overdue : Bool
  ladder : List Rung
  window : List WindowEntry
  origin : Option Nat
  lastAppended : Bool
  finalKnown : Bool
  dryArmed : Bool
  prevGrant : Option Nat
  buffer : List BufferEntry
  acc : Nat
  drainTimer : Option Nat
  margin : Margin
  hold : Bool
  landedThrough : Option Nat
  ceiling : Nat
  current : Nat
  stepTimer : Option Nat
  probePending : Bool
  probeLive : Bool
  rescuePending : Bool
  startLimit : Bool
  share : Nat
  flags : BitVec 11
  mask : BitVec 11
  deriving DecidableEq, Repr

/-- The configuration of a CLOSED slot. A CLOSED context holds none (R1); these zeros stand for it and no
rule reads them (log entry 7). -/
def SlotConfig.discarded : SlotConfig :=
  { priority := 0, guardRung := 0, startRung := 0, resume := 0, start := 0, target := 0, refill := 0,
    high := 0, envelopePeriod := 0, autoProbe := false, probeFactor := 0, deadlineFactor := 0,
    startTimeout := 0, stallTimeout := 0, playbackRate := 0 }

/-- A CLOSED slot with flags clear and every flag masked: the power-on values of R2, R24, R45, R69, R136, R120
and R181. -/
def Stream.closed : Stream :=
  { state := .closed, gate := false, cfg := SlotConfig.discarded, startTimer := none, stallTimer := none,
    overdue := false, ladder := [], window := [], origin := none, lastAppended := false, finalKnown := false,
    dryArmed := false, prevGrant := none, buffer := [], acc := 0, drainTimer := none, margin := .empty,
    hold := false, landedThrough := none, ceiling := 0, current := 0, stepTimer := none,
    probePending := false, probeLive := false, rescuePending := false, startLimit := false, share := 0,
    flags := 0, mask := BitVec.allOnes 11 }

/-! ### The fetch pool (chapter 3) -/

/-- A live fetch record (R44). `init` and `expected` are `none` when absent; `running` is the state RUNNING,
else ISSUED; `deadline` is the grant time plus the span. -/
structure Record where
  tag : Nat
  slot : Slot
  segment : Nat
  kind : FetchKind
  rung : Nat
  init : Option Nat
  expected : Option Nat
  reported : Nat
  running : Bool
  announcePending : Bool
  grantTime : Nat
  deadline : Nat
  deriving DecidableEq, Repr

/-- The fetch pool (R44, R47): the live records in the order of their creation, and the next-tag counter. A free
record holds no values, so the eight less the live ones are the free ones (log entry 8). -/
structure Pool where
  records : List Record
  nextTag : Nat
  deriving DecidableEq, Repr

/-! ### The link-wide blocks (chapters 5, 6 and 7) -/

/-- The rate estimator (R93). `sampleTimer` is the time of its next expiry. -/
structure Estimator where
  fast : Nat
  slow : Nat
  estimate : Nat
  intervalBytes : Nat
  intervalBusy : Bool
  sampleTimer : Nat
  startEstimate : Nat
  sagTrim : Nat
  sagLimit : Nat
  usable : Nat
  deriving DecidableEq, Repr

/-- The zone classifier (R107). -/
structure Classifier where
  zone : Zone
  raw : Zone
  dwellTimer : Option Nat
  dwell : Nat
  retry : Thresholds
  airtime : Thresholds
  deriving DecidableEq, Repr

/-- The LIMITS values kept by the share allocator (R103, R120). The protect threshold NONE is `none`. -/
structure Sharing where
  protect : Option Nat
  linkCeiling : Nat
  deriving DecidableEq, Repr

/-- The slot arbiter (R125). -/
structure Arbiter where
  slotLimit : Nat
  rotation : Slot
  probeRotation : Slot
  deriving DecidableEq, Repr

/-- The device flags and their masks (R176, R177). -/
structure DeviceFlags where
  flags : BitVec 4
  mask : BitVec 4
  deriving DecidableEq, Repr

/-! ### The whole part -/

/-- The state of the part. `now` is the time base in ms and `micros` the microseconds of line time used
within that ms (log entry 4); `choices` counts the free choices made (log entry 5); `pending` is the queue of
commands waiting, first in, first out. The rest is the spec's. -/
structure State where
  phase : Phase
  now : Nat
  micros : Nat
  rx : RxPort
  tx : TxPort
  streams : Vector Stream 4
  pool : Pool
  est : Estimator
  cls : Classifier
  sharing : Sharing
  arb : Arbiter
  dev : DeviceFlags
  choices : Nat
  pending : List Instr
  deriving DecidableEq, Repr

/-- Why a step stops with a fault. The spec names no event that stops the part: every receive fault, refused
request, missed deadline and stall is a next state. So there is no constructor. -/
inductive Fault where
  deriving DecidableEq, Repr

/-- Why a step is refused. -/
inductive Refusal where
  /-- Raised by an arm of `exec` whose command has no meaning yet; no arm is. Safe: the model stops. -/
  | notModelled (mnemonic : String)
  deriving DecidableEq, Repr

/-- What a command answers. -/
abbrev Out := Host.Outcome State Fault Refusal

/-! ### Reset -/

/-- The receive side at power-on (R159). -/
def RxPort.reset : RxPort := { receiver := .hunt, gapTimer := none, buffer := [] }

/-- The transmit side at power-on: HELLO of cause POWER_ON is the only frame (R163, R174). -/
def TxPort.reset : TxPort := { queue := [.hello .powerOn], sending := none }

/-- The fetch pool at power-on (R45). -/
def Pool.reset : Pool := { records := [], nextTag := 1 }

/-- The estimator at power-on and RESTART ALL (R94), the sample timer starting at time `t`. -/
def Estimator.reset (t : Nat) : Estimator :=
  { fast := 3000, slow := 3000, estimate := 3000, intervalBytes := 0, intervalBusy := false,
    sampleTimer := t + 500, startEstimate := 3000, sagTrim := 16, sagLimit := 150, usable := 2700 }

/-- The zone classifier at power-on and RESTART ALL (R107). -/
def Classifier.reset : Classifier :=
  { zone := .clear, raw := .clear, dwellTimer := none, dwell := 3000, retry := ⟨50, 150, 300⟩,
    airtime := ⟨50, 70, 85⟩ }

/-- The share allocator's settings at power-on and RESTART ALL (R103, R120). -/
def Sharing.reset : Sharing := { protect := none, linkCeiling := 1000000 }

/-- The slot arbiter at power-on and RESTART ALL (R125). -/
def Arbiter.reset : Arbiter := { slotLimit := 3, rotation := 3, probeRotation := 3 }

/-- The device flags at power-on and RESTART ALL: clear, every flag masked (R181). -/
def DeviceFlags.reset : DeviceFlags := { flags := 0, mask := BitVec.allOnes 4 }

/-- The part right after reset: the moment the time base starts (R174), when every block has taken its
power-on values and HELLO stands in the transmit queue (log entry 1). -/
def State.reset : State :=
  { phase := .running, now := 0, micros := 0, rx := RxPort.reset, tx := TxPort.reset,
    streams := Vector.replicate 4 Stream.closed, pool := Pool.reset, est := Estimator.reset 0,
    cls := Classifier.reset, sharing := Sharing.reset, arb := Arbiter.reset, dev := DeviceFlags.reset,
    choices := 0, pending := [] }

end Sys2Proof.Machine
end

