-- ==== Sys2Proof/Machine/Operands.lean ====
section
/-! DEFINITION. The bytes of the control link: the check byte, the codes, the layouts of frames, directives and
replies (R175), and the reading of every request's body with the length and field checks of the request decoder
(checks 2 and 3 of R160). -/

namespace Sys2Proof.Machine

/-! ### Numbers and codes -/

/-- `n` in `k` bytes, most-significant byte first (R175). -/
def beBytes : Nat → Nat → List Byte
  | 0, _ => []
  | k + 1, n => BitVec.ofNat 8 (n / 256 ^ k) :: beBytes k n

/-- The number that bytes spell, most-significant byte first (R175). -/
def beNat (bs : List Byte) : Nat := bs.foldl (fun a b => a * 256 + b.toNat) 0

/-- The field of `len` bytes at offset `off` of a body. -/
def field (body : List Byte) (off len : Nat) : Nat := beNat ((body.drop off).take len)

/-- A yes or no in one byte. -/
def boolByte (b : Bool) : Byte := if b then 1 else 0

/-- A number in one byte. -/
def byte (n : Nat) : Byte := BitVec.ofNat 8 n

/-- One bit of the CRC-8 of polynomial x^8 + x^2 + x + 1 (R157). -/
def crcBit (c : Byte) : Byte := if c.msb then (c <<< 1) ^^^ 0x07 else c <<< 1

/-- The CRC-8 taken over one byte, most-significant bit first (R157). -/
def crcByte (c b : Byte) : Byte := crcBit (crcBit (crcBit (crcBit (crcBit (crcBit (crcBit (crcBit (c ^^^ b))))))))

/-- The check byte over the length byte, the kind and the body (R157). -/
def crc8 (bs : List Byte) : Byte := bs.foldl crcByte 0

/-- The sync byte (R175). -/
def syncByte : Byte := 0xC5

/-- A frame as it stands on the line, sync to check (R175). -/
def lineBytes (kind : Byte) (body : List Byte) : List Byte :=
  let covered := byte (body.length + 1) :: kind :: body
  syncByte :: covered ++ [crc8 covered]

/-- The status codes (R175). -/
def Status.code : Status → Byte
  | .ok => 0x00
  | .unknownKind => 0x01
  | .badLength => 0x02
  | .badField => 0x03
  | .noStream => 0x04
  | .wrongState => 0x05
  | .full => 0x06
  | .staleTag => 0x07
  | .busy => 0x08
  | .notNow => 0x09
  | .outOfRange => 0x0A

/-- The state codes (R10). -/
def PlayState.code : PlayState → Byte
  | .closed => 0
  | .idle => 1
  | .starting => 2
  | .playing => 3
  | .rebuffering => 4
  | .paused => 5
  | .ended => 6

/-- The zone codes, in the order CLEAR, BUSY, CROWDED, JAMMED (R107, R170). -/
def Zone.code : Zone → Nat
  | .clear => 0
  | .busy => 1
  | .crowded => 2
  | .jammed => 3

/-- The margin codes, most urgent first (R130, R169). -/
def Margin.code : Margin → Nat
  | .empty => 0
  | .near1 => 1
  | .near2 => 2
  | .none => 3

/-- The fetch kind codes (R175). -/
def FetchKind.code : FetchKind → Byte
  | .normal => 1
  | .refetch => 2
  | .probe => 3

/-- The gate reason codes (R22). -/
def GateReason.code : GateReason → Byte
  | .start => 1
  | .resume => 2
  | .pause => 3
  | .stall => 4
  | .ended => 5
  | .seek => 6
  | .stop => 7
  | .close => 8

/-- The drop reason codes (R57). -/
def DropReason.code : DropReason → Byte
  | .deadline => 1
  | .rescue => 2
  | .stall => 3
  | .zone => 4
  | .seek => 5
  | .stop => 6
  | .close => 7

/-- The cause codes of HELLO (R171). -/
def HelloCause.code : HelloCause → Byte
  | .powerOn => 1
  | .restart => 2

/-- The part code (R165). -/
def partCode : Nat := 0x0412

/-- The vendor code (R165). -/
def vendorCode : Nat := 0x41E5

/-- The revision (R165). -/
def revision : Byte := 0x01

/-- The body of a FETCH directive, 19 bytes (R175). -/
def FetchDirective.body (d : FetchDirective) : List Byte :=
  byte d.tag :: byte d.slot.val :: beBytes 4 d.segment ++ byte d.rung :: beBytes 3 d.rate ++
    d.kind.code :: beBytes 3 d.init ++ beBytes 3 d.expected ++ beBytes 2 d.span

/-- The bytes on the line of a frame of the transmit queue; `groups` is the group field that a NOTE takes at the
start of its transmission (R171, R175, R179). -/
def TxFrame.line (groups : Byte) : TxFrame → List Byte
  | .hello c => lineBytes 0x60 (beBytes 2 partCode ++ [revision, c.code])
  | .fetch d => lineBytes 0x61 d.body
  | .drop tag r => lineBytes 0x62 [byte tag, r.code]
  | .gate n o r => lineBytes 0x63 [byte n.val, boolByte o, r.code]
  | .note => lineBytes 0x64 [groups]
  | .reply k b => lineBytes k b

/-- The kind of a reply (R161): the request's kind plus 0x80, or 0xFF where that kind is 0x80 or above. -/
def replyKind (kind : Byte) : Byte := if kind.toNat < 0x80 then kind + 0x80 else 0xFF

/-- The kinds of the request table (R162). -/
def requestKinds : List Byte :=
  [0x01, 0x02, 0x03, 0x04, 0x05, 0x06, 0x10, 0x11, 0x12, 0x13, 0x14, 0x15, 0x16, 0x17, 0x18, 0x19, 0x1A, 0x1B]

/-! ### Reading request bodies -/

/-- The slot a number names, if it lies in 0 to 3. -/
def toSlot (k : Nat) : Option Slot := if h : k < 4 then some ⟨k, h⟩ else none

/-- A body of one length whose only field is a slot (CLOSE R21, PROBE R148). -/
def parseSlot (body : List Byte) : Except Status Slot :=
  if body.length = 1 then
    match toSlot (field body 0 1) with
    | some n => .ok n
    | none => .error .badField
  else .error .badLength

/-- A body with nothing in it (IDENT R165, FLAGS R180). -/
def parseEmpty (body : List Byte) : Except Status Unit :=
  if body = [] then .ok () else .error .badLength

/-- RESTART (R172). -/
def parseRestart (body : List Byte) : Except Status RestartScope :=
  if body.length = 1 then
    if field body 0 1 = 1 then .ok .streams
    else if field body 0 1 = 2 then .ok .all
    else .error .badField
  else .error .badLength

/-- The configuration that an OPEN gives: its own fields and the TUNE defaults of R4. -/
def openConfig (priority guardRung startRung resume start target refill high : Nat) : SlotConfig :=
  { priority, guardRung, startRung, resume, start, target, refill, high, envelopePeriod := 2000,
    autoProbe := false, probeFactor := 8, deadlineFactor := 16, startTimeout := 10000, stallTimeout := 8000,
    playbackRate := 256 }

/-- The field checks of a full OPEN's configuration (R3). -/
def openRangesOk (c : SlotConfig) : Bool :=
  decide (c.priority ≤ 3 ∧ c.guardRung ≤ 9 ∧ c.startRung ≤ 9 ∧ c.high ≤ 120000 ∧
    c.resume ≤ c.start ∧ c.start ≤ c.target ∧ c.target ≤ c.refill ∧ c.refill < c.high)

/-- The configuration an OPEN body of a right length spells: the short form takes the defaults of R3. -/
def openFields (body : List Byte) : SlotConfig :=
  if body.length = 2 then openConfig (field body 1 1) 0 0 2000 4000 12000 20000 30000
  else openConfig (field body 1 1) (field body 2 1) (field body 3 1) (field body 4 3) (field body 7 3)
    (field body 10 3) (field body 13 3) (field body 16 3)

/-- OPEN, short and full form (R3). -/
def parseOpen (body : List Byte) : Except Status OpenReq :=
  if body.length = 2 ∨ body.length = 19 then
    match toSlot (field body 0 1) with
    | none => .error .badField
    | some n => if openRangesOk (openFields body) then .ok ⟨n, openFields body⟩ else .error .badField
  else .error .badLength

/-- The field checks of a TUNE (R6), the slot and the two yes-or-no bytes apart. -/
def tuneRangesOk (r : TuneReq) : Bool :=
  decide ((r.envelopePeriod = 1000 ∨ r.envelopePeriod = 2000 ∨ r.envelopePeriod = 4000 ∨ r.envelopePeriod = 8000) ∧
    (r.probeFactor = 8 ∨ r.probeFactor = 12) ∧ 8 ≤ r.deadlineFactor ∧ r.deadlineFactor ≤ 32 ∧
    2000 ≤ r.startTimeout ∧ r.startTimeout ≤ 60000 ∧ 2000 ≤ r.stallTimeout ∧ r.stallTimeout ≤ 60000 ∧
    128 ≤ r.playbackRate ∧ r.playbackRate ≤ 512)

/-- TUNE (R6). -/
def parseTune (body : List Byte) : Except Status TuneReq :=
  if body.length = 13 then
    match toSlot (field body 0 1) with
    | none => .error .badField
    | some n =>
      let r : TuneReq :=
        { slot := n, envelopePeriod := field body 1 2, autoProbe := decide (field body 3 1 = 1),
          probeFactor := field body 4 1, deadlineFactor := field body 5 1, startTimeout := field body 6 2,
          stallTimeout := field body 8 2, playbackRate := field body 10 2, lift := decide (field body 12 1 = 1) }
      if tuneRangesOk r ∧ field body 3 1 ≤ 1 ∧ field body 12 1 ≤ 1 then .ok r else .error .badField
  else .error .badLength

/-- The `k` rungs of a LADDER body, rung 0 first (R26). -/
def parseRungs : Nat → List Byte → List Rung
  | 0, _ => []
  | k + 1, bs => ⟨field bs 0 3, field bs 3 3⟩ :: parseRungs k (bs.drop 6)

/-- The rates ascend strictly from rung 0 to the top rung (R25). -/
def ratesAscend : List Rung → Bool
  | a :: b :: rest => decide (a.rate < b.rate) && ratesAscend (b :: rest)
  | _ => true

/-- The field checks of a ladder's rungs (R25, R26). -/
def rungsOk (l : List Rung) : Bool :=
  l.all (fun r => decide (32 ≤ r.rate ∧ r.rate ≤ 80000 ∧ r.init ≤ 262143)) && ratesAscend l

/-- LADDER (R26): the frame length is 3 + 6 k for some k from 1 to 10. -/
def parseLadder (body : List Byte) : Except Status LadderReq :=
  let k := (body.length - 2) / 6
  if body.length = 2 + 6 * k ∧ 1 ≤ k ∧ k ≤ 10 then
    match toSlot (field body 0 1) with
    | none => .error .badField
    | some n =>
      let l := parseRungs k (body.drop 2)
      if field body 1 1 = k ∧ rungsOk l then .ok ⟨n, l⟩ else .error .badField
  else .error .badLength

/-- The sizes of an APPEND entry, 3 bytes each (R34). -/
def parseSizes : Nat → List Byte → List Nat
  | 0, _ => []
  | k + 1, bs => field bs 0 3 :: parseSizes k (bs.drop 3)

/-- The walk over the entries of an APPEND, as many as the entry count says (R34): the entries and what is left of
the body, or nothing where the body ends before the last entry is complete. -/
def walkEntries : Nat → List Byte → Option (List AppendEntry × List Byte)
  | 0, bs => some ([], bs)
  | k + 1, bs =>
    if bs.length < 8 + 3 * field bs 7 1 then none
    else
      let e : AppendEntry :=
        { segment := field bs 0 4, duration := field bs 4 2, markers := byte (field bs 6 1),
          sizes := parseSizes (field bs 7 1) (bs.drop 8) }
      match walkEntries k (bs.drop (8 + 3 * field bs 7 1)) with
      | some (es, rest) => some (e :: es, rest)
      | none => none

/-- The segment numbers ascend by exactly 1 from each entry to the next (R35). -/
def consecutive : List AppendEntry → Bool
  | a :: b :: rest => decide (b.segment = a.segment + 1) && consecutive (b :: rest)
  | _ => true

/-- DISCONT, bit 0 of the markers (R175). -/
def entryDiscont (e : AppendEntry) : Bool := e.markers.getLsbD 0

/-- LAST, bit 1 of the markers (R175). -/
def entryLast (e : AppendEntry) : Bool := e.markers.getLsbD 1

/-- The field checks of an APPEND that read no state (R34, R35). -/
def appendRanges (es : List AppendEntry) : Bool :=
  decide (1 ≤ es.length ∧ es.length ≤ 4) &&
    es.all (fun e => decide (500 ≤ e.duration ∧ e.duration ≤ 10000 ∧ e.markers.toNat < 4 ∧ e.sizes.length ≤ 10)) &&
    consecutive es && es.dropLast.all (fun e => !entryLast e)

/-- APPEND, but for the field checks that read the stream (R34, R35). -/
def parseAppend (body : List Byte) : Except Status AppendReq :=
  if body.length < 2 then .error .badLength
  else
    match walkEntries (field body 1 1) (body.drop 2) with
    | some (es, []) =>
      match toSlot (field body 0 1) with
      | none => .error .badField
      | some n => if appendRanges es then .ok ⟨n, es⟩ else .error .badField
    | _ => .error .badLength

/-- The action an action code names (R10). -/
def toAction (k : Nat) : Option PlayAction :=
  match k with
  | 1 => some .play
  | 2 => some .pause
  | 3 => some .seek
  | 4 => some .stop
  | _ => none

/-- PLAYCTL (R10). -/
def parsePlayctl (body : List Byte) : Except Status PlayctlReq :=
  if body.length = 2 then
    match toSlot (field body 0 1), toAction (field body 1 1) with
    | some n, some a => .ok ⟨n, a⟩
    | _, _ => .error .badField
  else .error .badLength

/-- POSITION (R89). -/
def parsePosition (body : List Byte) : Except Status PositionReq :=
  if body.length = 7 then
    match toSlot (field body 0 1) with
    | some n => if field body 5 2 ≤ 9999 then .ok ⟨n, field body 1 4, field body 5 2⟩ else .error .badField
    | none => .error .badField
  else .error .badLength

/-- TALLY and LANDED (R59). -/
def parseCount (body : List Byte) : Except Status CountReq :=
  if body.length = 5 then .ok ⟨field body 0 1, field body 1 4⟩ else .error .badLength

/-- BROKEN (R59): the tag; the four reasons are handled alike and are not stored (R63). -/
def parseBroken (body : List Byte) : Except Status Nat :=
  if body.length = 2 then
    if 1 ≤ field body 1 1 ∧ field body 1 1 ≤ 4 then .ok (field body 0 1) else .error .badField
  else .error .badLength

/-- LINK (R108). -/
def parseLink (body : List Byte) : Except Status LinkReq :=
  if body.length = 5 then
    let r : LinkReq := ⟨field body 0 2, field body 2 2, field body 4 1⟩
    if 1 ≤ r.rtt ∧ r.rtt ≤ 5000 ∧ r.retry ≤ 1000 ∧ r.airtime ≤ 100 then .ok r else .error .badField
  else .error .badLength

/-- Three thresholds in 1 to `top`, strictly ascending (R109). -/
def thresholdsOk (t : Thresholds) (top : Nat) : Bool :=
  decide (1 ≤ t.busy ∧ t.busy < t.crowded ∧ t.crowded < t.jammed ∧ t.jammed ≤ top)

/-- The field checks of a LIMITS (R166), the protect threshold apart. -/
def limitsRangesOk (r : LimitsReq) : Bool :=
  decide (64 ≤ r.startEstimate ∧ r.startEstimate ≤ 1000000 ∧ 256 ≤ r.linkCeiling ∧ r.linkCeiling ≤ 1000000 ∧
    1 ≤ r.slotLimit ∧ r.slotLimit ≤ 8 ∧ 500 ≤ r.dwell ∧ r.dwell ≤ 30000 ∧ 20 ≤ r.sagLimit ∧ r.sagLimit ≤ 2000) &&
    thresholdsOk r.retry 1000 && thresholdsOk r.airtime 100

/-- LIMITS (R166): 21 body bytes; the protect threshold is 0 to 3, or 4 for NONE. -/
def parseLimits (body : List Byte) : Except Status LimitsReq :=
  if body.length = 21 then
    let p := field body 7 1
    let r : LimitsReq :=
      { startEstimate := field body 0 3, linkCeiling := field body 3 3, slotLimit := field body 6 1,
        protect := if p ≤ 3 then some p else none,
        retry := ⟨field body 8 2, field body 10 2, field body 12 2⟩,
        airtime := ⟨field body 14 1, field body 15 1, field body 16 1⟩,
        dwell := field body 17 2, sagLimit := field body 19 2 }
    if limitsRangesOk r ∧ p ≤ 4 then .ok r else .error .badField
  else .error .badLength

/-- MASK (R177): the device field and the four stream fields; an unused bit set is out of range. -/
def parseMask (body : List Byte) : Except Status MaskReq :=
  if body.length = 9 then
    if field body 0 1 < 16 ∧ field body 1 2 < 2048 ∧ field body 3 2 < 2048 ∧ field body 5 2 < 2048 ∧
        field body 7 2 < 2048 then
      .ok ⟨BitVec.ofNat 4 (field body 0 1),
        #v[BitVec.ofNat 11 (field body 1 2), BitVec.ofNat 11 (field body 3 2), BitVec.ofNat 11 (field body 5 2),
          BitVec.ofNat 11 (field body 7 2)]⟩
    else .error .badField
  else .error .badLength

/-- The part of the STREAM view a number names (R169). -/
def toPart (k : Nat) : Option StreamPart :=
  match k with
  | 0 => some .summary
  | 1 => some .window
  | 2 => some .buffer
  | _ => none

/-- QUERY (R168): a frame length of 2 to 4, then the length the view code asks, then the fields. -/
def parseQuery (body : List Byte) : Except Status QueryReq :=
  if body.length = 0 ∨ 3 < body.length then .error .badLength
  else
    match field body 0 1 with
    | 1 =>
      if body.length = 3 then
        match toSlot (field body 1 1), toPart (field body 2 1) with
        | some n, some p => .ok (.stream n p)
        | _, _ => .error .badField
      else .error .badLength
    | 2 => if body.length = 1 then .ok .link else .error .badLength
    | 3 => if body.length = 2 then .ok (.record (field body 1 1)) else .error .badLength
    | _ => .error .badField

/-! ### Which row a frame belongs to

PLAYCTL, RESTART and QUERY frames belong to one of several rows of the table. A frame that fails the length or the
field checks names no action, scope or view; any of its kind's rows answers it (log entry 3). -/

/-- The body is a PLAYCTL of action `a`, or one that the checks refuse. -/
def playctlRow (a : PlayAction) (body : List Byte) : Bool :=
  match parsePlayctl body with
  | .ok r => r.action == a
  | .error _ => true

/-- The body is a RESTART of scope `x`, or one that the checks refuse. -/
def restartRow (x : RestartScope) (body : List Byte) : Bool :=
  match parseRestart body with
  | .ok y => y == x
  | .error _ => true

/-- The body is a QUERY of the STREAM view, or one that the checks refuse. -/
def queryStreamRow (body : List Byte) : Bool :=
  match parseQuery body with
  | .ok (.stream _ _) => true
  | .ok _ => false
  | .error _ => true

/-- The body is a QUERY of the LINK view, or one that the checks refuse. -/
def queryLinkRow (body : List Byte) : Bool :=
  match parseQuery body with
  | .ok .link => true
  | .ok _ => false
  | .error _ => true

/-- The body is a QUERY of the RECORD view, or one that the checks refuse. -/
def queryRecordRow (body : List Byte) : Bool :=
  match parseQuery body with
  | .ok (.record _) => true
  | .ok _ => false
  | .error _ => true

/-- The command that takes a frame waiting at the head of the receive buffer (R160, R162). -/
def commandOf (f : Frame) : Instr :=
  match f.kind.toNat with
  | 0x01 => .ident f.body
  | 0x02 => if restartRow .streams f.body then .restartStreams f.body else .restartAll f.body
  | 0x03 => .limits f.body
  | 0x04 => .mask f.body
  | 0x05 => .flags f.body
  | 0x06 =>
    if queryStreamRow f.body then .queryStream f.body
    else if queryLinkRow f.body then .queryLink f.body
    else .queryRecord f.body
  | 0x10 => .openSlot f.body
  | 0x11 => .tune f.body
  | 0x12 => .ladder f.body
  | 0x13 => .append f.body
  | 0x14 =>
    if playctlRow .play f.body then .play f.body
    else if playctlRow .pause f.body then .pause f.body
    else if playctlRow .seek f.body then .seek f.body
    else .stop f.body
  | 0x15 => .close f.body
  | 0x16 => .position f.body
  | 0x17 => .probe f.body
  | 0x18 => .tally f.body
  | 0x19 => .landed f.body
  | 0x1A => .broken f.body
  | 0x1B => .link f.body
  | _ => .unknownKindRequest f.kind f.body

end Sys2Proof.Machine
end

