-- ==== Sys2Proof/Machine/Ops.lean ====
section
/-! DEFINITION. The named operations over the state that every block shares: reading and writing a stream, the
transmit queue, the time base, the order of free choices, and what each block's rules read of a stream. -/

namespace Sys2Proof.Machine

/-! ### Streams -/

/-- Stream n. -/
def State.stream (s : State) (n : Slot) : Stream := s.streams[n.val]

/-- Stream n becomes `st`. -/
def State.setStream (s : State) (n : Slot) (st : Stream) : State :=
  { s with streams := s.streams.set n.val st }

/-- Stream n is changed by `f`. -/
def State.modStream (s : State) (n : Slot) (f : Stream → Stream) : State := s.setStream n (f (s.stream n))

/-- `f` acts for each slot in turn, slot 0 first. -/
def State.forSlots (s : State) (f : Slot → State → State) : State := slots.foldl (fun s n => f n s) s

/-- A stream is active in STARTING, PLAYING, REBUFFERING and PAUSED (R9, R120). -/
def Stream.active (st : Stream) : Bool :=
  match st.state with
  | .starting | .playing | .rebuffering | .paused => true
  | .closed | .idle | .ended => false

/-- The slot is open: not CLOSED. -/
def Stream.isOpen (st : Stream) : Bool := st.state != .closed

/-- The slot holds a ladder (R24). -/
def Stream.hasLadder (st : Stream) : Bool := st.ladder != []

/-- The top rung: the rung count less 1 (R25). -/
def Stream.top (st : Stream) : Nat := st.ladder.length - 1

/-- The rate of a rung of the stream's ladder (R25). -/
def Stream.rate (st : Stream) (r : Nat) : Nat := (st.ladder.getD r ⟨0, 0⟩).rate

/-- The init size of a rung of the stream's ladder (R25). -/
def Stream.initSize (st : Stream) (r : Nat) : Nat := (st.ladder.getD r ⟨0, 0⟩).init

/-- The occupancy B: the sum of remaining over the buffer queue (R69, R70). -/
def Stream.occupancy (st : Stream) : Nat := (st.buffer.map BufferEntry.remaining).sum

/-- The entry is WAITING (R29). -/
def WindowEntry.isWaiting (e : WindowEntry) : Bool :=
  match e.state with
  | .waiting => true
  | .inFlight _ | .landedEarly _ _ => false

/-- The fill-hold count: the buffer entries and the window entries that are IN_FLIGHT or LANDED_EARLY (R81). -/
def Stream.fillCount (st : Stream) : Nat :=
  st.buffer.length + (st.window.filter fun e => !e.isWaiting).length

/-- The window entry of a segment becomes `f` of it (R29: no number occurs twice in a window). -/
def changeEntry (seg : Nat) (f : WindowEntry → WindowEntry) (w : List WindowEntry) : List WindowEntry :=
  w.map fun e => if e.segment = seg then f e else e

/-! ### The fetch pool's records -/

/-- The live record that holds a tag (R44). -/
def State.recordOf (s : State) (tag : Nat) : Option Record := s.pool.records.find? fun r => r.tag == tag

/-- A record is of kind NORMAL or REFETCH. -/
def Record.isNormal (r : Record) : Bool := r.kind != .probe

/-- The stream's live NORMAL or REFETCH record (R49: at most one). -/
def State.normalRecord (s : State) (n : Slot) : Option Record :=
  s.pool.records.find? fun r => r.slot == n && r.isNormal

/-- The stream's live PROBE record (R49: at most one). -/
def State.probeRecord (s : State) (n : Slot) : Option Record :=
  s.pool.records.find? fun r => r.slot == n && !r.isNormal

/-- The live count (R44). -/
def State.liveCount (s : State) : Nat := s.pool.records.length

/-- The records become `rs`. -/
def State.setRecords (s : State) (rs : List Record) : State := { s with pool := { s.pool with records := rs } }

/-- The record of a tag is freed (R46). -/
def State.freeRecord (s : State) (tag : Nat) : State :=
  s.setRecords (s.pool.records.filter fun r => r.tag != tag)

/-- The record of a tag becomes `f` of it. -/
def State.changeRecord (s : State) (tag : Nat) (f : Record → Record) : State :=
  s.setRecords (s.pool.records.map fun r => if r.tag = tag then f r else r)

/-! ### The transmit queue (R163) -/

/-- The transmit queue becomes `q`. -/
def State.setQueue (s : State) (q : List TxFrame) : State := { s with tx := { s.tx with queue := q } }

/-- A frame joins the tail of the transmit queue, whatever the occupancy (R163). -/
def State.pushTx (s : State) (f : TxFrame) : State := s.setQueue (s.tx.queue ++ [f])

/-- The frame is a GATE directive of slot n (R23). -/
def TxFrame.isGateOf (n : Slot) : TxFrame → Bool
  | .gate m _ _ => m == n
  | _ => false

/-- The frame is the FETCH directive of a tag (R58). -/
def TxFrame.isFetchOf (tag : Nat) : TxFrame → Bool
  | .fetch d => d.tag == tag
  | _ => false

/-- The frame is a NOTE directive (R179). -/
def TxFrame.isNote : TxFrame → Bool
  | .note => true
  | _ => false

/-- The frame is a FETCH, DROP or GATE directive, which a RESTART purges (R172). -/
def TxFrame.isStreamDirective : TxFrame → Bool
  | .fetch _ | .drop _ _ | .gate _ _ _ => true
  | .hello _ | .note | .reply _ _ => false

/-- A NOTE is waiting in the transmit queue (R178). -/
def State.noteWaiting (s : State) : Bool := s.tx.queue.any TxFrame.isNote

/-- The new GATE takes the place of the first waiting GATE of its slot (R23). -/
def replaceGate (n : Slot) (f : TxFrame) : List TxFrame → List TxFrame
  | [] => []
  | g :: q => if g.isGateOf n then f :: q else g :: replaceGate n f q

/-- A GATE directive is queued: by replacement where a GATE of the slot waits, else at the tail (R23). -/
def State.pushGate (s : State) (n : Slot) (opened : Bool) (r : GateReason) : State :=
  if s.tx.queue.any (TxFrame.isGateOf n) then s.setQueue (replaceGate n (.gate n opened r) s.tx.queue)
  else s.pushTx (.gate n opened r)

/-- A reply: the status, and what follows it (R161). -/
def State.reply (s : State) (kind : Byte) (st : Status) (fields : List Byte) : State :=
  s.pushTx (.reply (replyKind kind) (st.code :: fields))

/-! ### Time -/

/-- The time base has come to the expiry time `e`: an expiry that is taken ahead of the model's clock moves the
clock to it (log entry 4). -/
def State.reach (s : State) (e : Nat) : State := if s.now < e then { s with now := e, micros := 0 } else s

/-- An event of a timer: `act` at the expiry time where the timer runs, and no event at all where it is stopped, since a
stopped timer does not expire (R53, R66, R144). The part itself takes an expiry up when its time has come (`State.idle`); one that is
given from outside ahead of that time says that it comes (log entry 4). -/
def State.atExpiry (s : State) (timer : Option Nat) (act : State → State) : State :=
  match timer with
  | some e => act (s.reach e)
  | none => s

/-- Nothing acts before the time base starts (R174). -/
def State.whenRunning (s : State) (act : State → State) : State := if s.phase = .running then act s else s

/-! ### Free order -/

/-- `x` takes the given place of a list, or the last place. -/
def placeAt {α : Type} (x : α) : List α → Nat → List α
  | [], _ => [x]
  | y :: ys, 0 => x :: y :: ys
  | y :: ys, p + 1 => y :: placeAt x ys p

/-- A list in the order that the free values of choice `k` give (log entry 5). -/
def freeOrder {α : Type} (k : Nat) : List α → List α
  | [] => []
  | x :: xs => placeAt x (freeOrder k xs) (Config.freeOrder k xs.length)

end Sys2Proof.Machine
end

