-- ==== Sys2Proof/Machine/Flags.lean ====
section
/-! DEFINITION. The flag unit (chapter 10): raising and clearing flags, the summary, and the NOTE. -/

namespace Sys2Proof.Machine

/-- The bit of a device flag (R176). -/
def DeviceFlag.bit : DeviceFlag → Nat
  | .zone => 0
  | .sag => 1
  | .frameErr => 2
  | .rxOverflow => 3

/-- The bit of a stream flag (R176). -/
def StreamFlag.bit : StreamFlag → Nat
  | .startLate => 0
  | .stall => 1
  | .stallLong => 2
  | .windowDry => 3
  | .margin => 4
  | .rung => 5
  | .probeDone => 6
  | .probeFail => 7
  | .abandon => 8
  | .skip => 9
  | .ended => 10

/-- The device group holds an unmasked set flag (R178). -/
def State.deviceCalls (s : State) : Bool := (s.dev.flags &&& ~~~ s.dev.mask) != 0

/-- The group of slot n holds an unmasked set flag (R178). -/
def Stream.calls (st : Stream) : Bool := (st.flags &&& ~~~ st.mask) != 0

/-- The summary: at least one flag is both set and unmasked (R178). -/
def State.summary (s : State) : Bool := s.deviceCalls || slots.any fun n => (s.stream n).calls

/-- The group field of a NOTE as it is composed at the start of its transmission (R179): bit 0 the device group,
bits 1 to 4 the slots 0 to 3. -/
def State.groupField (s : State) : Byte :=
  boolByte s.deviceCalls ||| boolByte (s.stream 0).calls <<< 1 ||| boolByte (s.stream 1).calls <<< 2 |||
    boolByte (s.stream 2).calls <<< 3 ||| boolByte (s.stream 3).calls <<< 4

/-- The summary is re-evaluated: where it has turned from false (in `before`) to true and no NOTE is waiting, one NOTE
is queued (R178). -/
def State.noteIfTurned (s : State) (before : State) : State :=
  if !before.summary && s.summary && !s.noteWaiting then s.pushTx .note else s

/-- A device flag is raised: a clear flag becomes set, a set one stays (R176). -/
def State.raiseDevice (s : State) (f : DeviceFlag) : State :=
  if s.dev.flags.getLsbD f.bit then s
  else { s with dev := { s.dev with flags := s.dev.flags ||| BitVec.twoPow 4 f.bit } }.noteIfTurned s

/-- A flag of stream n is raised: a clear flag becomes set, a set one stays (R176). -/
def State.raise (s : State) (n : Slot) (f : StreamFlag) : State :=
  if (s.stream n).flags.getLsbD f.bit then s
  else (s.modStream n fun st => { st with flags := st.flags ||| BitVec.twoPow 11 f.bit }).noteIfTurned s

/-- A flag is raised where `c` holds. -/
def State.raiseIf (s : State) (c : Bool) (n : Slot) (f : StreamFlag) : State := if c then s.raise n f else s

/-- A device flag is raised where `c` holds. -/
def State.raiseDeviceIf (s : State) (c : Bool) (f : DeviceFlag) : State := if c then s.raiseDevice f else s

/-- Every flag, device and stream, becomes clear (R180, R181). Clearing queues nothing: it can only turn the summary
false. -/
def State.clearFlags (s : State) : State :=
  { s with dev := { s.dev with flags := 0 } }.forSlots fun n s => s.modStream n fun st => { st with flags := 0 }

/-- The nine bytes of the flags: the device field, then the stream fields of slots 0 to 3 (R180). -/
def State.flagBytes (s : State) : List Byte :=
  byte s.dev.flags.toNat :: slots.flatMap fun n => beBytes 2 (s.stream n).flags.toNat

/-- The masks of a MASK are stored (R177). -/
def State.setMasks (s : State) (r : MaskReq) : State :=
  { s with dev := { s.dev with mask := r.device } }.forSlots fun n s =>
    s.modStream n fun st => { st with mask := r.stream[n.val] }

end Sys2Proof.Machine
end

