-- ==== Sys2Proof/Machine/Playout.lean ====
section
/-! DEFINITION. Shared operations of the stream controller, the window store and the playout model: the gate, the
readiness test, margin level and fill hold, the contiguous move, failures and skips, and the emptying of a stream. -/

namespace Sys2Proof.Machine

/-! ### Margin level and fill hold -/

/-- The reference duration of the margin level: the buffer's tail, else the window's head, else 2,000 ms (R79). -/
def Stream.refDuration (st : Stream) : Nat :=
  match st.buffer.getLast?, st.window.head? with
  | some b, _ => b.duration
  | none, some e => e.duration
  | none, none => 2000

/-- The margin level that B and the reference duration give (R79). -/
def Stream.marginLevel (st : Stream) : Margin :=
  if st.occupancy = 0 then .empty
  else if st.occupancy ≤ st.refDuration then .near1
  else if st.occupancy ≤ 2 * st.refDuration then .near2
  else .none

/-- The evaluation of the fill hold (R82). -/
def Stream.holdEval (st : Stream) : Bool :=
  if st.cfg.high ≤ st.occupancy ∨ 24 ≤ st.fillCount then true
  else if st.occupancy ≤ st.cfg.refill then false
  else st.hold

/-- The margin level and the hold are re-evaluated; MARGIN rises where the level changes (R79, R82). -/
def State.reevaluate (s : State) (n : Slot) : State :=
  let st := s.stream n
  (s.modStream n fun st => { st with margin := st.marginLevel, hold := st.holdEval }).raiseIf
    (st.marginLevel != st.margin) n .margin

/-! ### The gate and the playback states -/

/-- Entry to PLAYING (R14, R22, R74): the gate opens with a GATE directive, the timers of the state left stop, start
overdue becomes no, and the drain timer starts, its first expiry 10 ms later. -/
def State.enterPlaying (s : State) (n : Slot) (r : GateReason) : State :=
  (s.modStream n fun st =>
    { st with state := .playing, gate := true, startTimer := none, stallTimer := none, overdue := false,
              drainTimer := some (s.now + 10) }).pushGate n true r

/-- Exit from PLAYING, where the stream is PLAYING (R9, R22): the gate closes with a GATE directive, drain steps stop and a
pending probe is cancelled. The new state is the caller's to write. -/
def State.leavePlaying (s : State) (n : Slot) (r : GateReason) : State :=
  if (s.stream n).state = .playing then
    (s.modStream n fun st => { st with gate := false, drainTimer := none, probePending := false }).pushGate n false r
  else s

/-- The stream is ready to play (R14). -/
def Stream.ready (st : Stream) : Bool :=
  match st.state with
  | .starting =>
    (st.buffer != [] && (decide (st.cfg.start ≤ st.occupancy) || st.overdue)) || (st.finalKnown && st.window == [])
  | .rebuffering =>
    (st.buffer != [] && (decide (st.cfg.resume ≤ st.occupancy) || st.hold)) || (st.finalKnown && st.window == [])
  | _ => false

/-- The reason with which a ready stream's gate opens (R14, R22). -/
def Stream.readyReason (st : Stream) : GateReason :=
  match st.state with
  | .starting => .start
  | _ => .resume

/-- The readiness test: a ready stream moves to PLAYING (R14). -/
def State.readinessTest (s : State) (n : Slot) : State :=
  if (s.stream n).ready then s.enterPlaying n (s.stream n).readyReason else s

/-- Entry to STARTING (R11, R12, R19): the start timer starts with the start timeout held now, start overdue becomes
no. -/
def State.enterStarting (s : State) (n : Slot) : State :=
  s.modStream n fun st =>
    { st with state := .starting, startTimer := some (s.now + st.cfg.startTimeout), stallTimer := none,
              overdue := false }

/-- A change of the window or of the buffer queue is reported to the playout model and, through it, to the stream controller:
margin and hold are re-evaluated and the readiness test is made (R30, R71; log entry 9). -/
def State.windowChanged (s : State) (n : Slot) : State := (s.reevaluate n).readinessTest n

/-! ### The contiguous move (R71) -/

/-- What leaves the head of a window: the buffer entries made of the LANDED_EARLY entries at its head, whether the entry
carrying LAST is among them, and the window that stays. -/
def takeLanded : List WindowEntry → List BufferEntry × Bool × List WindowEntry
  | [] => ([], false, [])
  | e :: w =>
    match e.state with
    | .landedEarly rung _ =>
      let (bs, l, w') := takeLanded w
      (⟨e.segment, rung, e.duration, e.duration⟩ :: bs, e.last || l, w')
    | .waiting | .inFlight _ => ([], false, e :: w)

/-- The stream after the contiguous move (R71, R72, R39). -/
def Stream.moved (st : Stream) : Stream :=
  let (bs, l, w) := takeLanded st.window
  { st with
    window := w, buffer := st.buffer ++ bs, finalKnown := st.finalKnown || l,
    landedThrough := match bs.getLast? with | some b => some b.segment | none => st.landedThrough }

/-- The contiguous move, and the report of the change (R71). -/
def State.contiguousMove (s : State) (n : Slot) : State := (s.modStream n Stream.moved).windowChanged n

/-! ### Window entries -/

/-- The entry becomes WAITING, its granted rung discarded and its failure count kept (R33). -/
def WindowEntry.returned (e : WindowEntry) : WindowEntry := { e with state := .waiting }

/-- The entry of a segment returns to WAITING (R33). -/
def State.returnEntry (s : State) (n : Slot) (seg : Nat) : State :=
  s.modStream n fun st => { st with window := changeEntry seg WindowEntry.returned st.window }

/-- The entry of a segment lands with its final byte count (R32); the rung at which it landed is its granted rung. -/
def State.landEntry (s : State) (n : Slot) (seg rung bytes : Nat) : State :=
  s.modStream n fun st =>
    { st with window := changeEntry seg (fun e => { e with state := .landedEarly rung bytes }) st.window }

/-- A skip: the entry leaves the window with no buffer entry, SKIP rises, the stream becomes final-known where the entry
carried LAST, and the contiguous move runs (R41, R73). -/
def State.skipEntry (s : State) (n : Slot) (e : WindowEntry) : State :=
  let s1 := s.modStream n fun st => { st with window := st.window.filter fun x => x.segment != e.segment }
  ((s1.raise n .skip).modStream n fun st => { st with finalKnown := st.finalKnown || e.last }).contiguousMove n

/-- A failure claim on the entry of a segment (R40): the count is raised and the entry returns to WAITING, or on the third
failure the entry is skipped. -/
def State.failEntry (s : State) (n : Slot) (seg : Nat) : State :=
  match (s.stream n).window.find? fun e => e.segment == seg with
  | none => s
  | some e =>
    if e.failures < 2 then
      (s.modStream n fun st =>
        { st with window := changeEntry seg (fun e => { e.returned with failures := e.failures + 1 }) st.window }).windowChanged n
    else s.skipEntry n e

/-! ### Emptying a stream -/

/-- The window is emptied, the append origin unset, LAST appended and final-known and dry armed no (R42). -/
def Stream.emptyWindow (st : Stream) : Stream :=
  { st with window := [], origin := none, lastAppended := false, finalKnown := false, dryArmed := false }

/-- The playout model's queue is emptied (R92): no entries, accumulator 0, landed-through unset, drain timer stopped. -/
def Stream.emptyBuffer (st : Stream) : Stream :=
  { st with buffer := [], acc := 0, landedThrough := none, drainTimer := none }

/-- A pending probe is cancelled, the probe dropped is live no more and ends without outcome, and rescue pending is cleared
(R19 step 4, R136, R154). -/
def Stream.clearProbeAndRescue (st : Stream) : Stream :=
  { st with probePending := false, probeLive := false, rescuePending := false }

end Sys2Proof.Machine
end

