-- ==== Sys2Proof/Machine/Capacity.lean ====
section
/-! DEFINITION. Usable capacity and its division: utilisation, U (chapters 5 and 6), the guard pass and the filling
rounds of the share allocation (chapter 7). -/

namespace Sys2Proof.Machine

/-- The utilisation of a zone in percent (R116). -/
def Zone.utilisation : Zone → Nat
  | .clear => 90
  | .busy => 80
  | .crowded => 65
  | .jammed => 50

/-- The usable capacity from E, the zone's utilisation, the trim and the link ceiling (R104). -/
def State.usableNow (s : State) : Nat :=
  min (s.est.estimate * s.cls.zone.utilisation / 100 * s.est.sagTrim / 16) s.sharing.linkCeiling

/-- The weight of a priority (R121). -/
def weightOf (priority : Nat) : Nat :=
  match priority with
  | 0 => 8
  | 1 => 4
  | 2 => 2
  | _ => 1

/-- A stream of this configuration is protected under a threshold (R121). -/
def isProtected (protect : Option Nat) (priority : Nat) : Bool :=
  match protect with
  | some t => decide (priority ≤ t)
  | none => false

/-- One stream in the allocation: its base and what the rounds have given it, and what it still needs (R122, R123). -/
structure Claim where
  slot : Slot
  weight : Nat
  need : Nat
  given : Nat
  deriving DecidableEq, Repr

/-- The active streams in the order of the guard pass: ascending priority, then ascending slot (R122). -/
def State.guardOrder (s : State) : List Slot :=
  [0, 1, 2, 3].flatMap fun p => slots.filter fun n => (s.stream n).active && (s.stream n).cfg.priority == p

/-- The base the guard pass gives a stream out of the remainder `r` (R122). -/
def State.baseOf (s : State) (n : Slot) (r : Nat) : Nat :=
  let st := s.stream n
  if isProtected s.sharing.protect st.cfg.priority then min (st.rate st.cfg.guardRung) r else 0

/-- The guard pass (R122): the remainder it leaves, and each stream's claim with its base given. -/
def State.guardPass (s : State) : Nat → List Slot → Nat × List Claim
  | r, [] => (r, [])
  | r, n :: ns =>
    let b := s.baseOf n r
    let (r', cs) := s.guardPass (r - b) ns
    (r', ⟨n, weightOf (s.stream n).cfg.priority, (s.stream n).rate (s.stream n).top - b, b⟩ :: cs)

/-- What a round gives a claim: its need, or its whole portion of `r` by weight where that is less (R123). -/
def Claim.portion (c : Claim) (r w : Nat) : Nat := min c.need (r * c.weight / w)

/-- The claim after a round (R123). -/
def Claim.take (c : Claim) (r w : Nat) : Claim :=
  { c with need := c.need - c.portion r w, given := c.given + c.portion r w }

/-- The sum of the weights of the uncapped streams (R123). -/
def uncappedWeight (cs : List Claim) : Nat := ((cs.filter fun c => c.need != 0).map Claim.weight).sum

/-- A round caps some stream that was uncapped before it (R123). -/
def capsSome (r w : Nat) (cs : List Claim) : Bool := cs.any fun c => c.need != 0 && (c.take r w).need == 0

/-- The filling rounds, at most `k` of them (R123). -/
def fillRounds : Nat → Nat → List Claim → List Claim
  | 0, _, cs => cs
  | k + 1, r, cs =>
    let w := uncappedWeight cs
    if w = 0 ∨ r = 0 then cs
    else
      let cs' := cs.map fun c => c.take r w
      if capsSome r w cs then fillRounds k (r - (cs.map fun c => c.portion r w).sum) cs' else cs'

/-- The allocation of `u` over the active streams (R122, R123): four rounds suffice, since each that continues caps a
stream. -/
def State.allocation (s : State) (u : Nat) : List Claim :=
  let (r, cs) := s.guardPass u s.guardOrder
  fillRounds 4 r cs

/-- The share of a slot in an allocation: its base and what it was given, 0 for a stream that is not active (R120). -/
def shareIn (cs : List Claim) (n : Slot) : Nat := ((cs.filter fun c => c.slot == n).map Claim.given).sum

/-- The allocation is re-run in full from R = U (R124). -/
def State.reallocate (s : State) : State :=
  let cs := s.allocation s.est.usable
  s.forSlots fun n s => s.modStream n fun st => { st with share := shareIn cs n }

/-- The allocation is re-run where `c` holds. -/
def State.reallocateIf (s : State) (c : Bool) : State := if c then s.reallocate else s

/-- U is recomputed and the allocation re-run (R105). -/
def State.recomputeUsable (s : State) : State :=
  { s with est := { s.est with usable := s.usableNow } }.reallocate

end Sys2Proof.Machine
end

