-- ==== Sys2Proof/Machine/Selector.lean ====
section
/-! DEFINITION. Shared operations of the rung selector (chapter 8): the normal decision, the ceiling and its envelope, and
the outcomes of a probe. -/

namespace Sys2Proof.Machine

/-! ### The normal decision (R138, R139) -/

/-- The base rate: the share as the band takes it (R138). -/
def Stream.base (st : Stream) : Nat :=
  match st.margin with
  | .empty | .near1 => st.share / 2
  | .near2 => st.share * 3 / 4
  | .none => if st.occupancy < st.cfg.target then st.share else st.share * 5 / 4

/-- The highest rung whose rate is at or below the base, else rung 0 (R139 step 1). -/
def Stream.candidate (st : Stream) : Nat :=
  (List.range st.ladder.length).foldl (fun best r => if st.rate r ≤ st.base then r else best) 0

/-- The zone holds a decision to the current rung (R139 step 3). -/
def Zone.holdsRung : Zone → Bool
  | .clear | .busy => false
  | .crowded | .jammed => true

/-- The rung of a normal decision without rescue pending, its limits in the order of R139. -/
def Stream.normalRung (st : Stream) (z : Zone) : Nat :=
  let r2 := min st.candidate (st.current + 1)
  let r3 := if z.holdsRung then min r2 st.current else r2
  let r4 := min r3 st.ceiling
  if st.state = .starting ∧ st.startLimit then min r4 st.cfg.startRung else r4

/-- The kind and the rung of the stream's next normal grant: REFETCH at rung 0 with rescue pending (R137), else the normal
decision (R139). -/
def State.normalDecision (s : State) (n : Slot) : FetchKind × Nat :=
  if (s.stream n).rescuePending then (.refetch, 0) else (.normal, (s.stream n).normalRung s.cls.zone)

/-- The rung given becomes the current rung, rescue pending is spent, and RUNG rises where the current rung changes
(R137, R140). -/
def State.takeDecision (s : State) (n : Slot) (r : Nat) : State :=
  (s.modStream n fun st => { st with current := r, rescuePending := false }).raiseIf ((s.stream n).current != r) n .rung

/-! ### The ceiling (R142, R144) -/

/-- The envelope step timer restarted from zero: it runs where C is below the top rung and the zone is not JAMMED
(R142, R144). -/
def State.restartedStep (s : State) (st : Stream) (c : Nat) : Option Nat :=
  if c < st.top ∧ s.cls.zone ≠ .jammed then some (s.now + st.cfg.envelopePeriod) else none

/-- A ceiling fall to the named value (R142): C is lowered, a pending probe is cancelled, the step timer is restarted or
stopped. A stream without a ladder takes none. -/
def State.fall (s : State) (n : Slot) (named : Nat) : State :=
  s.modStream n fun st =>
    if st.hasLadder then
      { st with ceiling := min st.ceiling named, probePending := false,
                stepTimer := s.restartedStep st (min st.ceiling named) }
    else st

/-- Lift ceiling (R8, R147): C becomes the top rung and the step timer stops. -/
def Stream.lifted (st : Stream) : Stream :=
  if st.hasLadder then { st with ceiling := st.top, stepTimer := none } else st

/-! ### Probe outcomes (R152 to R154) -/

/-- A probe failure (R153): the fall to the current rung, PROBE_FAIL, probe live no. -/
def State.probeFailure (s : State) (n : Slot) : State :=
  (((s.fall n (s.stream n).current).raise n .probeFail).modStream n fun st => { st with probeLive := false })

/-- A probe success at rung `r` (R152): C and the current rung rise to it, RUNG and PROBE_DONE rise, probe live no, and the
step timer stops where C has reached the top rung. -/
def State.probeSuccess (s : State) (n : Slot) (r : Nat) : State :=
  let s1 := (s.modStream n fun st => { st with ceiling := max st.ceiling r, current := r }).raiseIf
    ((s.stream n).current != r) n .rung
  (s1.raise n .probeDone).modStream n fun st =>
    { st with probeLive := false, stepTimer := if st.top ≤ st.ceiling then none else st.stepTimer }

end Sys2Proof.Machine
end

