-- ==== Sys2Proof/Machine/Pool.lean ====
section
/-! DEFINITION. The fetch pool and the slot arbiter (chapters 3 and 7): making a record, drops and withdrawals, eligibility,
the dry test, and arbitration. -/

namespace Sys2Proof.Machine

/-! ### Making a record (R47 to R54) -/

/-- The next value of the next-tag counter: 255 is followed by 1 (R47). -/
def tagAfter (t : Nat) : Nat := if 255 ≤ t then 1 else t + 1

/-- The first value from `t` on that no live record holds; at most 8 are passed over (R47). -/
def firstFreeTag (live : List Nat) : Nat → Nat → Nat
  | 0, t => t
  | k + 1, t => if live.contains t then firstFreeTag live k (tagAfter t) else t

/-- The tag of the next record (R47). -/
def Pool.freeTag (p : Pool) : Nat := firstFreeTag (p.records.map Record.tag) 8 p.nextTag

/-- The init part of a grant (R50). -/
def Stream.initPart (st : Stream) (e : WindowEntry) (kind : FetchKind) (rung : Nat) : Option Nat :=
  if 0 < st.initSize rung ∧ (e.discont = true ∨ kind ≠ .normal ∨ st.prevGrant ≠ some rung) then some (st.initSize rung)
  else none

/-- The media bytes expected of an entry at a rung (R52). -/
def WindowEntry.expected (e : WindowEntry) (rung : Nat) : Option Nat := e.sizes.map fun l => l.getD rung 0

/-- The deadline span of a record, in ms (R53). -/
def Stream.span (st : Stream) (e : WindowEntry) (kind : FetchKind) : Nat :=
  match kind with
  | .normal | .refetch => e.duration * st.cfg.deadlineFactor / 8
  | .probe => e.duration * st.cfg.probeFactor / 8

/-- The record a grant makes (R48 steps 1 to 3). -/
def State.newRecord (s : State) (n : Slot) (e : WindowEntry) (kind : FetchKind) (rung : Nat) : Record :=
  let st := s.stream n
  { tag := s.pool.freeTag, slot := n, segment := e.segment, kind := kind, rung := rung,
    init := st.initPart e kind rung, expected := e.expected rung, reported := 0, running := false,
    announcePending := true, grantTime := s.now, deadline := s.now + st.span e kind }

/-- The FETCH directive of a new record (R54). -/
def Record.directive (r : Record) (rate : Nat) : FetchDirective :=
  { tag := r.tag, slot := r.slot, segment := r.segment, rung := r.rung, rate := rate, kind := r.kind,
    init := r.init.getD 0, expected := r.expected.getD 0, span := r.deadline - r.grantTime }

/-- The stream after a grant of a rung for the entry of a segment: the previous grant memory takes the rung (R51), the entry
becomes IN_FLIGHT with it (R31). -/
def Stream.granted (st : Stream) (seg rung : Nat) : Stream :=
  { st with prevGrant := some rung, window := changeEntry seg (fun e => { e with state := .inFlight rung }) st.window }

/-- A grant at the fetch pool (R48): the record is made, the previous grant memory takes the rung, the entry becomes
IN_FLIGHT, and the FETCH directive is queued. -/
def State.makeRecord (s : State) (n : Slot) (e : WindowEntry) (kind : FetchKind) (rung : Nat) : State :=
  let r := s.newRecord n e kind rung
  let s1 := { s with pool := { records := s.pool.records ++ [r], nextTag := tagAfter r.tag } }
  (s1.modStream n fun st => st.granted e.segment rung).pushTx (.fetch (r.directive ((s.stream n).rate rung)))

/-! ### Drops (R56, R58) -/

/-- A withdrawal (R58): the FETCH directive leaves the transmit queue, and the stream's previous grant memory becomes
none (R51). -/
def State.withdraw (s : State) (r : Record) : State :=
  (s.setQueue (s.tx.queue.filter fun f => !f.isFetchOf r.tag)).modStream r.slot fun st => { st with prevGrant := none }

/-- Steps 1 and 2 of a drop (R56): the record is freed, and its FETCH is withdrawn or a DROP directive is queued. -/
def State.dropRecord (s : State) (r : Record) (reason : DropReason) : State :=
  let s1 := s.freeRecord r.tag
  if r.announcePending then s1.withdraw r else s1.pushTx (.drop r.tag reason)

/-- A drop whose entry returns to WAITING without a failure count (R56 step 3, R33). -/
def State.dropToWaiting (s : State) (r : Record) (reason : DropReason) : State :=
  ((s.dropRecord r reason).returnEntry r.slot r.segment).windowChanged r.slot

/-- A probe dropped with a failing reason: STALL, ZONE or DEADLINE (R57, R153). -/
def State.failProbe (s : State) (r : Record) (reason : DropReason) : State :=
  (s.dropToWaiting r reason).probeFailure r.slot

/-- One of the drops of SEEK, STOP and CLOSE, where the record is live (R56). -/
def State.dropFor (s : State) (n : Slot) (reason : DropReason) (r : Option Record) : State :=
  match r with
  | some r => (s.dropRecord r reason).returnEntry n r.segment
  | none => s

/-- The drops of SEEK, STOP and CLOSE (R19, R21): the NORMAL or REFETCH record first, then the PROBE record. The entries' return
to WAITING is not seen, since the window is emptied next (R33). -/
def State.dropStream (s : State) (n : Slot) (reason : DropReason) : State :=
  let s1 := s.dropFor n reason (s.normalRecord n)
  s1.dropFor n reason (s1.probeRecord n)

/-! ### Eligibility (R126, R127) -/

/-- The stream is eligible for a normal grant (R126). -/
def State.normalEligible (s : State) (n : Slot) : Bool :=
  let st := s.stream n
  st.active && !st.hold && (s.normalRecord n).isNone && st.window.any WindowEntry.isWaiting

/-- The target of a probe grant: the lowest WAITING entry above the segment of the live normal record (R132). -/
def State.probeTarget (s : State) (n : Slot) : Option WindowEntry :=
  match s.normalRecord n with
  | some r => (s.stream n).window.find? fun e => e.isWaiting && decide (r.segment < e.segment)
  | none => none

/-- The stream is eligible for a probe grant (R127). -/
def State.probeEligible (s : State) (n : Slot) : Bool :=
  let st := s.stream n
  st.probePending && (s.probeRecord n).isNone && (s.probeTarget n).isSome && st.state == .playing && !st.hold &&
    s.cls.zone != .jammed && decide (st.current + 1 ≤ st.top)

/-- The slots in rotation after a pointer (R130, R131): pointer + 1, + 2, + 3, and the pointer itself. -/
def rotation (p : Slot) : List Slot := [p + 1, p + 2, p + 3, p]

/-- The slot `a` comes before `b` by margin level, then by priority (R130). -/
def State.moreUrgent (s : State) (a b : Slot) : Bool :=
  let x := s.stream a
  let y := s.stream b
  decide (x.margin.code < y.margin.code ∨ (x.margin.code = y.margin.code ∧ x.cfg.priority < y.cfg.priority))

/-- The first slot of a list by margin and priority, the list's own order deciding between equals (R130). -/
def State.mostUrgent (s : State) : List Slot → Option Slot
  | [] => none
  | n :: ns =>
    match s.mostUrgent ns with
    | some m => if s.moreUrgent m n then some m else some n
    | none => some n

/-- The stream that receives the next normal grant (R130). -/
def State.nextNormal (s : State) : Option Slot :=
  s.mostUrgent ((rotation s.arb.rotation).filter s.normalEligible)

/-- The stream that receives the next probe grant (R131). -/
def State.nextProbe (s : State) : Option Slot := (rotation s.arb.probeRotation).find? s.probeEligible

/-! ### Grants (R129) -/

/-- A normal grant to stream n (R129): the decision, the target, the record and its FETCH, hold and margin, and the
rotation pointer. The re-evaluation, and with it a GATE that the grant's hold causes, comes after the FETCH: the model's choice, which
the spec leaves open (log entry 19). -/
def State.grantNormal (s : State) (n : Slot) : State :=
  match (s.stream n).window.find? WindowEntry.isWaiting with
  | none => s
  | some e =>
    let d := s.normalDecision n
    let s1 := (s.takeDecision n d.2).makeRecord n e d.1 d.2
    { s1 with arb := { s1.arb with rotation := n } }.windowChanged n

/-- A probe grant to stream n (R129, R151): the rung one above the current rung, probe pending no and probe live yes. The
re-evaluation comes after the FETCH, as at a normal grant (log entry 19). -/
def State.grantProbe (s : State) (n : Slot) : State :=
  match s.probeTarget n with
  | none => s
  | some e =>
    let s1 := s.modStream n fun st => { st with probePending := false, probeLive := true }
    let s2 := s1.makeRecord n e .probe ((s.stream n).current + 1)
    { s2 with arb := { s2.arb with probeRotation := n } }.windowChanged n

/-- The arbiter may grant: a slot is free and the transmit queue holds 20 frames or fewer (R125, R133). -/
def State.mayGrant (s : State) : Bool := decide (s.liveCount < s.arb.slotLimit ∧ s.tx.queue.length ≤ 20)

/-- Grants while they can be made, at most `k` (R129): a normal grant where a stream is normal-eligible, else a probe. -/
def State.grants : Nat → State → State
  | 0, s => s
  | k + 1, s =>
    if s.mayGrant then
      match s.nextNormal, s.nextProbe with
      | some n, _ => State.grants k (s.grantNormal n)
      | none, some n => State.grants k (s.grantProbe n)
      | none, none => s
    else s

/-- The stream is dry (R43). -/
def State.dry (s : State) (n : Slot) : Bool :=
  let st := s.stream n
  !st.hold && (s.normalRecord n).isNone && !st.window.any WindowEntry.isWaiting && !st.finalKnown

/-- The dry test of one slot (R43): WINDOW_DRY rises for an active, dry and armed stream, which is then no longer armed. -/
def State.dryTest (n : Slot) (s : State) : State :=
  if (s.stream n).active && s.dry n && (s.stream n).dryArmed then
    (s.raise n .windowDry).modStream n fun st => { st with dryArmed := false }
  else s

/-- An arbitration (R129): the dry test for every active stream, then the grants. Each grant makes a record live and at most 8
are live (R49), so eight suffice. -/
def State.arbitrate (s : State) : State := (s.forSlots State.dryTest).grants 8

/-! ### Arbitration events (R128) -/

/-- A stream's hold has changed from set (in `before`) to clear (R83). -/
def State.holdCleared (s before : State) : Bool := slots.any fun n => (before.stream n).hold && !(s.stream n).hold

/-- A stream has become active since `before` (R9). -/
def State.becameActive (s before : State) : Bool := slots.any fun n => !(before.stream n).active && (s.stream n).active

/-- A record has been freed since `before`, no grant having been made in between (R56 step 5, R61, R63). -/
def State.recordFreed (s before : State) : Bool := decide (s.liveCount < before.liveCount)

/-- The arbitration that ends an event, where the event raised one (R128): `before` is the state the event began in. -/
def State.settle (s before : State) : State :=
  if s.recordFreed before || s.holdCleared before || s.becameActive before then s.arbitrate else s

end Sys2Proof.Machine
end

