-- ==== Sys2Proof/Machine/Decoder.lean ====
section
/-! DEFINITION. The receive side of the link port and the request decoder (chapter 9): the receiver's states, receive faults,
the receive buffer, and the one operation by which every request row takes its frame, is checked and answered. -/

namespace Sys2Proof.Machine

/-! ### The receiver (R157 to R159) -/

/-- The receiver takes a state; its gap timer runs in LENGTH, BODY and CHECK, restarted by the byte just received, and is
stopped in HUNT (R158). A gap of 2 ms or less never expires it and one of 3 ms or more always does, so it is due at the third
tick of the time base (log entry 6). -/
def State.receiverTo (s : State) (r : Receiver) : State :=
  { s with rx := { s.rx with receiver := r, gapTimer := if r = .hunt then none else some (s.now + 3) } }

/-- A receive fault: the bytes collected are discarded, FRAME_ERR rises, and the receiver returns to HUNT (R158). -/
def State.receiveFault (s : State) : State := (s.receiverTo .hunt).raiseDevice .frameErr

/-- A frame is complete: it joins the receive buffer, or is discarded with RX_OVERFLOW where 4 frames wait (R159). -/
def State.frameComplete (s : State) (f : Frame) : State :=
  if s.rx.buffer.length < 4 then { s with rx := { s.rx with buffer := s.rx.buffer ++ [f] } }
  else s.raiseDevice .rxOverflow

/-- A byte with a good stop bit, by the receiver's state (R157). -/
def State.takeByte (s : State) (b : Byte) : State :=
  match s.rx.receiver with
  | .hunt => if b = syncByte then s.receiverTo .length else s
  | .length => if 1 ≤ b.toNat ∧ b.toNat ≤ 250 then s.receiverTo (.body b.toNat []) else s.receiveFault
  | .body n got =>
    if (got ++ [b]).length < n then s.receiverTo (.body n (got ++ [b])) else s.receiverTo (.check n (got ++ [b]))
  | .check n got =>
    match got with
    | [] => s.receiveFault
    | k :: body =>
      if b = crc8 (byte n :: k :: body) then (s.receiverTo .hunt).frameComplete ⟨k, body⟩ else s.receiveFault

/-- A byte on CRX (R157, R158): one with a low stop bit is a receive fault inside a frame and nothing in HUNT. -/
def State.receiveByte (s : State) (b : Byte) (stopLow : Bool) : State :=
  if stopLow then if s.rx.receiver = .hunt then s else s.receiveFault
  else s.takeByte b

/-! ### The request decoder (R160, R161) -/

/-- The frame of a request row stands at the decoder's door (log entry 2): where it does not already wait at the head of the
receive buffer it arrives whole on CRX, which it can while the receiver hunts and its length is one a frame can have (R157). -/
def State.offer (s : State) (f : Frame) : State :=
  if s.rx.buffer.head? = some f then s
  else if s.rx.receiver = .hunt ∧ f.body.length < 250 then s.frameComplete f
  else s

/-- The decoder takes the frame: it is at the head of the receive buffer and the transmit queue holds fewer than 32 frames
(R160). -/
def State.canTake (s : State) (f : Frame) : Bool :=
  decide (s.rx.buffer.head? = some f ∧ s.tx.queue.length < 32)

/-- The head frame leaves the receive buffer (R159). -/
def State.popFrame (s : State) : State := { s with rx := { s.rx with buffer := s.rx.buffer.tail } }

/-- A request is taken and handled by `act`, which queues its one reply (R160, R161). A frame that the decoder cannot take yet
waits in the receive buffer. -/
def State.takeRequest (s : State) (f : Frame) (act : State → State) : State :=
  s.whenRunning fun s =>
    let s1 := s.offer f
    if s1.canTake f then act s1.popFrame else s1

/-- The first failed check gives the reply and changes nothing else; a request that passes is handed to `act` (R160). -/
def State.answer {α : Type} (s : State) (kind : Byte) (checked : Except Status α) (act : α → State → State) : State :=
  match checked with
  | .error e => s.reply kind e []
  | .ok a => act a s

/-- A request row: the frame of this kind and body is taken, checked in the order of R160, and acted on or refused. -/
def State.request {α : Type} (s : State) (kind : Byte) (body : List Byte) (check : State → Except Status α)
    (act : α → State → State) : State :=
  s.takeRequest ⟨kind, body⟩ fun s => s.answer kind (check s) act

/-- A request row that shares its kind with others takes a frame of its own row alone (log entry 3). -/
def State.requestIf {α : Type} (s : State) (own : Bool) (kind : Byte) (body : List Byte)
    (check : State → Except Status α) (act : α → State → State) : State :=
  if own then s.request kind body check act else s

/-- Checks 2 to 4 of the decoder (R160) for a request that carries a slot: its fields as read, then NO_STREAM for a CLOSED
slot. -/
def State.openStream {α : Type} (s : State) (read : Except Status α) (slot : α → Slot) : Except Status α :=
  match read with
  | .error e => .error e
  | .ok a => if (s.stream (slot a)).isOpen then .ok a else .error .noStream

end Sys2Proof.Machine
end

