-- ==== Sys2Proof/Machine/Power.lean ====
section
/-! DEFINITION. The family of NRST, power and the time base (R174), and of the line itself: bytes in (R157, R158), frames out
(R156). -/

namespace Sys2Proof.Machine

/-- NRST_ASSERT (R174): the part is held in reset, CRX is ignored, CTX is high, and a frame under transmission is cut short. What
the blocks held stays until the time base starts and is read by nothing meanwhile (log entry 1). -/
def execNrstAssert (s : State) : Out := .next { s with phase := .held, tx := { s.tx with sending := none } }

/-- NRST_RELEASE (R174): the wait for the time base begins, where the part was held in reset. -/
def execNrstRelease (s : State) : Out := .next (if s.phase = .held then { s with phase := .waiting } else s)

/-- TIME_BASE_START (R174): every block takes its power-on values and HELLO of cause POWER_ON joins the empty transmit queue. It
comes after a release of NRST alone. -/
def execTimeBaseStart (s : State) : Out :=
  .next (if s.phase = .waiting then { State.reset with choices := s.choices, pending := s.pending } else s)

/-- RECEIVE_BYTE (R157). -/
def execReceiveByte (b : Byte) (stopLow : Bool) (s : State) : Out :=
  .next (s.whenRunning fun s => s.receiveByte b stopLow)

/-- GAP_TIMER_EXPIRY (R158): the frame in progress is discarded with FRAME_ERR. -/
def execGapTimerExpiry (s : State) : Out :=
  .next (s.whenRunning fun s => s.atExpiry s.rx.gapTimer State.receiveFault)

/-- What the start of a FETCH directive's transmission reports to the fetch pool (R55). -/
def State.announce (s : State) (f : TxFrame) : State :=
  match f with
  | .fetch d => s.changeRecord d.tag fun r => { r with announcePending := false }
  | .hello _ | .drop _ _ | .gate _ _ _ | .note | .reply _ _ => s

/-- The head frame begins transmission (R156): it leaves the queue, a NOTE's group field is composed (R179), a FETCH is
announced (R55), and a fall of the occupancy from 21 to 20 is an arbitration event (R133). -/
def State.startFrame (s : State) (f : TxFrame) (q : List TxFrame) : State :=
  let bytes := f.line s.groupField
  let s1 := { s with tx := { queue := q, sending := some ⟨bytes, 5 * bytes.length⟩ } }.announce f
  if q.length = 20 then s1.arbitrate else s1

/-- TRANSMIT_START (R156): the idle transmitter takes the head of the transmit queue. -/
def execTransmitStart (s : State) : Out :=
  .next (s.whenRunning fun s =>
    match s.tx.sending, s.tx.queue with
    | none, f :: q => s.startFrame f q
    | none, [] => s
    | some _, _ => s)

/-- TRANSMIT_COMPLETE (R156): the transmitter is idle. The next frame, where one waits, is taken by the TRANSMIT_START that follows
at once (`State.readyEvents`). -/
def execTransmitComplete (s : State) : Out :=
  .next (s.whenRunning fun s => { s with tx := { s.tx with sending := none } })

end Sys2Proof.Machine
end

