-- ==== Sys2Proof/Machine/PortRequests.lean ====
section
/-! DEFINITION. The family of requests that carry no slot or belong to the link port and the flag unit: UNKNOWN_KIND, IDENT,
RESTART, LIMITS, MASK, FLAGS and QUERY (chapters 9 and 10). -/

namespace Sys2Proof.Machine

/-! ### UNKNOWN_KIND and IDENT -/

/-- UNKNOWN_KIND_REQUEST (R160, R161): the status is followed by the kind received. -/
def execUnknownKindRequest (kind : Byte) (body : List Byte) (s : State) : Out :=
  .next (if requestKinds.contains kind then s
    else s.takeRequest ⟨kind, body⟩ fun s => s.reply kind .unknownKind [kind])

/-- IDENT (R165). -/
def execIdent (body : List Byte) (s : State) : Out :=
  .next (s.request 0x01 body (fun _ => parseEmpty body) fun _ s =>
    s.reply 0x01 .ok (beBytes 2 vendorCode ++ beBytes 2 partCode ++ [revision]))

/-! ### RESTART (R172, R173) -/

/-- A slot after a RESTART: CLOSED with its flags clear and its masks kept (R2, R181). -/
def Stream.restarted (st : Stream) : Stream := { Stream.closed with mask := st.mask }

/-- Steps 1 and 2 of RESTART STREAMS (R172): every slot CLOSED, every record freed, the rotation pointers 3, every share 0. -/
def State.closeAll (s : State) : State :=
  { s with pool := { s.pool with records := [] }, arb := { s.arb with rotation := 3, probeRotation := 3 } }.forSlots
    fun n s => s.modStream n Stream.restarted

/-- Step 3 of RESTART STREAMS (R172): the purge of every FETCH, DROP and GATE directive. -/
def State.purge (s : State) : State := s.setQueue (s.tx.queue.filter fun f => !f.isStreamDirective)

/-- RESTART_STREAMS (R172). -/
def execRestartStreams (body : List Byte) (s : State) : Out :=
  .next (s.requestIf (restartRow .streams body) 0x02 body (fun _ => parseRestart body) fun _ s =>
    s.closeAll.purge.reply 0x02 .ok [])

/-- Steps 1 and 2 of RESTART ALL (R173), after those of RESTART STREAMS: LIMITS values, masks and flags at their defaults, the
estimator and the classifier at theirs, the sample timer restarted. -/
def State.resetLink (s : State) : State :=
  { s with est := Estimator.reset s.now, cls := Classifier.reset, sharing := Sharing.reset, arb := Arbiter.reset,
           dev := DeviceFlags.reset }.forSlots fun n s => s.setStream n Stream.closed

/-- RESTART_ALL (R173): the reply becomes the only frame of the transmit queue, HELLO of cause RESTART behind it. -/
def execRestartAll (body : List Byte) (s : State) : Out :=
  .next (s.requestIf (restartRow .all body) 0x02 body (fun _ => parseRestart body) fun _ s =>
    ((s.closeAll.resetLink.setQueue []).reply 0x02 .ok []).pushTx (.hello .restart))

/-! ### LIMITS (R166, R167) -/

/-- The eight values of a LIMITS are written (R167), the start estimate and its load apart. -/
def State.writeLimits (s : State) (r : LimitsReq) : State :=
  { s with
    est := { s.est with sagLimit := r.sagLimit },
    cls := { s.cls with retry := r.retry, airtime := r.airtime, dwell := r.dwell },
    sharing := { protect := r.protect, linkCeiling := r.linkCeiling },
    arb := { s.arb with slotLimit := r.slotLimit } }

/-- A start estimate that differs from the value held is stored and loaded into F and S, and E equals it (R100). -/
def State.loadStart (s : State) (v : Nat) : State :=
  if v = s.est.startEstimate then s
  else { s with est := { s.est with startEstimate := v, fast := v, slow := v, estimate := v } }

/-- The values of a LIMITS and what follows from them (R167 steps 1 to 3). -/
def State.applyLimits (s : State) (r : LimitsReq) : State :=
  let s1 := (s.writeLimits r).loadStart r.startEstimate
  if r.startEstimate ≠ s.est.startEstimate ∨ r.linkCeiling ≠ s.sharing.linkCeiling then s1.recomputeUsable
  else if r.protect ≠ s.sharing.protect then s1.reallocate
  else s1

/-- LIMITS (R166, R167). -/
def execLimits (body : List Byte) (s : State) : Out :=
  .next (s.request 0x03 body (fun _ => parseLimits body) fun r s =>
    (s.applyLimits r).arbitrate.reply 0x03 .ok [])

/-! ### MASK and FLAGS (R177, R180) -/

/-- MASK (R177): the masks are stored and the summary re-evaluated; a NOTE it queues stands before the reply. -/
def execMask (body : List Byte) (s : State) : Out :=
  .next (s.request 0x04 body (fun _ => parseMask body) fun r s =>
    ((s.setMasks r).noteIfTurned s).reply 0x04 .ok [])

/-- FLAGS (R180): every flag is reported and cleared in one act. -/
def execFlags (body : List Byte) (s : State) : Out :=
  .next (s.request 0x05 body (fun _ => parseEmpty body) fun _ s => s.clearFlags.reply 0x05 .ok s.flagBytes)

/-! ### QUERY (R67, R168 to R170) -/

/-- The tag of a record for a view, 0 where there is none (R169). -/
def tagByte (r : Option Record) : Byte :=
  match r with
  | some r => byte r.tag
  | none => 0

/-- The summary part of the STREAM view, after slot and part (R169). -/
def State.summaryView (s : State) (n : Slot) : List Byte :=
  let st := s.stream n
  st.state.code :: boolByte st.gate :: beBytes 3 st.occupancy ++ byte st.margin.code :: boolByte st.hold ::
    byte st.ladder.length :: (if st.hasLadder then byte st.ceiling else 0xFF) ::
    (if st.hasLadder then byte st.current else 0xFF) :: beBytes 3 st.share ++ boolByte st.finalKnown ::
    boolByte st.landedThrough.isSome :: beBytes 4 (st.landedThrough.getD 0) ++
    [byte st.window.length, byte st.buffer.length, tagByte (s.normalRecord n), tagByte (s.probeRecord n)]

/-- A window entry in the STREAM view (R169): state code, failure count, granted rung or 0xFF, landed bytes or 0. -/
def WindowEntry.view (e : WindowEntry) : List Byte :=
  match e.state with
  | .waiting => beBytes 4 e.segment ++ 0 :: byte e.failures :: 0xFF :: beBytes 4 0
  | .inFlight r => beBytes 4 e.segment ++ 1 :: byte e.failures :: byte r :: beBytes 4 0
  | .landedEarly r b => beBytes 4 e.segment ++ 2 :: byte e.failures :: byte r :: beBytes 4 b

/-- The window part of the STREAM view, after slot and part (R169). -/
def Stream.windowView (st : Stream) : List Byte := byte st.window.length :: st.window.flatMap WindowEntry.view

/-- The buffer part of the STREAM view, after slot and part (R169). -/
def Stream.bufferView (st : Stream) : List Byte :=
  byte st.buffer.length :: st.buffer.flatMap fun b => beBytes 4 b.segment ++ byte b.rung :: beBytes 2 b.remaining

/-- The STREAM view, after the status (R169). -/
def State.streamView (s : State) (n : Slot) (p : StreamPart) : List Byte :=
  match p with
  | .summary => byte n.val :: 0 :: s.summaryView n
  | .window => byte n.val :: 1 :: (s.stream n).windowView
  | .buffer => byte n.val :: 2 :: (s.stream n).bufferView

/-- The LINK view, after the status (R170). -/
def State.linkView (s : State) : List Byte :=
  beBytes 3 s.est.fast ++ beBytes 3 s.est.slow ++ beBytes 3 s.est.estimate ++ beBytes 3 s.est.usable ++
    [byte s.cls.zone.code, byte s.cls.raw.code, byte s.est.sagTrim, byte s.liveCount, byte s.arb.slotLimit]

/-- The RECORD view, after the status (R67, R168). The remaining time is at least 1 ms for a live record (R67). -/
def Record.view (r : Record) (now : Nat) : List Byte :=
  byte r.tag :: byte r.slot.val :: beBytes 4 r.segment ++ r.kind.code :: byte r.rung :: beBytes 3 (r.init.getD 0) ++
    boolByte r.expected.isSome :: beBytes 3 (r.expected.getD 0) ++ beBytes 4 r.reported ++
    (if r.running then 2 else 1) :: boolByte r.announcePending :: beBytes 2 (max 1 (r.deadline - now))

/-- The checks of a QUERY (R168): the STREAM view of a CLOSED slot is NO_STREAM, the RECORD view of a tag that no live record
holds is STALE_TAG. -/
def State.checkQuery (s : State) (body : List Byte) : Except Status (List Byte) :=
  match parseQuery body with
  | .error e => .error e
  | .ok (.stream n p) => if (s.stream n).isOpen then .ok (s.streamView n p) else .error .noStream
  | .ok .link => .ok s.linkView
  | .ok (.record tag) =>
    match s.recordOf tag with
    | some r => if tag = 0 then .error .staleTag else .ok (r.view s.now)
    | none => .error .staleTag

/-- QUERY_STREAM (R169). -/
def execQueryStream (body : List Byte) (s : State) : Out :=
  .next (s.requestIf (queryStreamRow body) 0x06 body (fun s => s.checkQuery body) fun view s => s.reply 0x06 .ok view)

/-- QUERY_LINK (R170). -/
def execQueryLink (body : List Byte) (s : State) : Out :=
  .next (s.requestIf (queryLinkRow body) 0x06 body (fun s => s.checkQuery body) fun view s => s.reply 0x06 .ok view)

/-- QUERY_RECORD (R67). -/
def execQueryRecord (body : List Byte) (s : State) : Out :=
  .next (s.requestIf (queryRecordRow body) 0x06 body (fun s => s.checkQuery body) fun view s => s.reply 0x06 .ok view)

end Sys2Proof.Machine
end

