-- ==== Sys2Proof/Machine/StreamRequests.lean ====
section
/-! DEFINITION. The family of requests that carry a slot: OPEN, TUNE, LADDER, APPEND, PLAYCTL, CLOSE, POSITION and PROBE
(chapters 1, 2, 4 and 8). -/

namespace Sys2Proof.Machine

/-! ### OPEN, TUNE and LADDER -/

/-- The checks of an OPEN (R3): a slot that is not CLOSED is WRONG_STATE. -/
def State.checkOpen (s : State) (body : List Byte) : Except Status OpenReq :=
  match parseOpen body with
  | .error e => .error e
  | .ok r => if (s.stream r.slot).isOpen then .error .wrongState else .ok r

/-- The context of a slot just opened (R4, R24): IDLE, its flags clear, dry armed yes, its masks kept. -/
def Stream.opened (st : Stream) (c : SlotConfig) : Stream :=
  { Stream.closed with state := .idle, cfg := c, dryArmed := true, mask := st.mask }

/-- OPEN (R4). -/
def execOpenSlot (body : List Byte) (s : State) : Out :=
  .next (s.request 0x10 body (fun s => s.checkOpen body) fun r s =>
    (s.modStream r.slot fun st => st.opened r.cfg).reply 0x10 .ok [])

/-- The seven stored values of a TUNE (R6). -/
def SlotConfig.tuned (c : SlotConfig) (r : TuneReq) : SlotConfig :=
  { c with
    envelopePeriod := r.envelopePeriod, autoProbe := r.autoProbe, probeFactor := r.probeFactor,
    deadlineFactor := r.deadlineFactor, startTimeout := r.startTimeout, stallTimeout := r.stallTimeout,
    playbackRate := r.playbackRate }

/-- The stream after a TUNE (R6, R8): the stored values first, then the lift where it is asked for. -/
def Stream.tuned (st : Stream) (r : TuneReq) : Stream :=
  let st1 := { st with cfg := SlotConfig.tuned st.cfg r }
  if r.lift then st1.lifted else st1

/-- TUNE (R6). -/
def execTune (body : List Byte) (s : State) : Out :=
  .next (s.request 0x11 body (fun s => s.openStream (parseTune body) TuneReq.slot) fun r s =>
    (s.modStream r.slot fun st => st.tuned r).reply 0x11 .ok [])

/-- The checks of a LADDER (R27): IDLE, and no ladder held or an empty window. -/
def State.checkLadder (s : State) (body : List Byte) : Except Status LadderReq :=
  match s.openStream (parseLadder body) LadderReq.slot with
  | .error e => .error e
  | .ok r =>
    let st := s.stream r.slot
    if st.state = .idle ∧ (st.hasLadder = false ∨ st.window = []) then .ok r else .error .wrongState

/-- The stream with a ladder loaded (R5, R28, R136): guard and start rung clipped to the top rung, C the top rung, the current
rung the clipped start rung, the step timer stopped. -/
def Stream.loaded (st : Stream) (l : List Rung) : Stream :=
  let top := l.length - 1
  { st with
    ladder := l,
    cfg := { st.cfg with guardRung := min st.cfg.guardRung top, startRung := min st.cfg.startRung top },
    ceiling := top, current := min st.cfg.startRung top, stepTimer := none, probePending := false, probeLive := false,
    rescuePending := false, startLimit := false }

/-- LADDER (R28). -/
def execLadder (body : List Byte) (s : State) : Out :=
  .next (s.request 0x12 body (fun s => s.checkLadder body) fun r s =>
    (s.modStream r.slot fun st => st.loaded r.rungs).reply 0x12 .ok [])

/-! ### APPEND (R35 to R37) -/

/-- The field checks of an APPEND that read the stream (R35): a size count that fits the ladder loaded, and a first number that
continues from the append origin. -/
def Stream.appendFields (st : Stream) (es : List AppendEntry) : Bool :=
  (!st.hasLadder || es.all fun e => e.sizes.length == 0 || e.sizes.length == st.ladder.length) &&
    match st.origin, es.head? with
    | some last, some e => e.segment == last + 1
    | _, _ => true

/-- The checks of an APPEND, in the order of R35 and R36. -/
def State.checkAppend (s : State) (body : List Byte) : Except Status AppendReq :=
  match parseAppend body with
  | .error e => .error e
  | .ok r =>
    let st := s.stream r.slot
    if !st.appendFields r.entries then .error .badField
    else if !st.isOpen then .error .noStream
    else if st.state = .ended ∨ st.lastAppended = true then .error .wrongState
    else if st.hasLadder = false ∧ r.entries.any (fun e => e.sizes != []) then .error .wrongState
    else if 16 < st.window.length + r.entries.length then .error .full
    else .ok r

/-- The window entry an APPEND entry makes (R29, R37). -/
def AppendEntry.toWindow (e : AppendEntry) : WindowEntry :=
  { segment := e.segment, duration := e.duration, discont := entryDiscont e, last := entryLast e,
    sizes := if e.sizes = [] then none else some e.sizes, state := .waiting, failures := 0 }

/-- The stream after steps 1 to 3 of an APPEND (R37). -/
def Stream.appended (st : Stream) (es : List AppendEntry) : Stream :=
  { st with
    window := st.window ++ es.map AppendEntry.toWindow,
    origin := match es.getLast? with | some e => some e.segment | none => st.origin,
    lastAppended := st.lastAppended || es.any entryLast, dryArmed := true }

/-- APPEND (R37). -/
def execAppend (body : List Byte) (s : State) : Out :=
  .next (s.request 0x13 body (fun s => s.checkAppend body) fun r s =>
    let s1 := ((s.modStream r.slot fun st => st.appended r.entries).windowChanged r.slot).arbitrate
    s1.reply 0x13 .ok [byte (s1.stream r.slot).window.length])

/-! ### PLAYCTL (R10) -/

/-- Checks 2 to 4 of a PLAYCTL (R10), then its state check `allowed` (WRONG_STATE). -/
def State.checkPlayctl (s : State) (body : List Byte) (allowed : Stream → Bool) : Except Status PlayctlReq :=
  match s.openStream (parsePlayctl body) PlayctlReq.slot with
  | .error e => .error e
  | .ok r => if allowed (s.stream r.slot) then .ok r else .error .wrongState

/-- The reply to an accepted PLAYCTL: OK and the state after the action (R10). -/
def State.replyState (s : State) (n : Slot) : State := s.reply 0x14 .ok [(s.stream n).state.code]

/-- The states in which PLAY is accepted (R10). -/
def Stream.playAllowed (st : Stream) : Bool :=
  match st.state with
  | .idle => st.hasLadder
  | .starting | .playing | .rebuffering | .paused => true
  | .closed | .ended => false

/-- The start of playback as PLAY in IDLE marks it (R11, R51, R69, R136). -/
def Stream.startOfPlayback (st : Stream) : Stream :=
  { st with prevGrant := none, acc := 0, landedThrough := none, probePending := false, probeLive := false,
            rescuePending := false, startLimit := true }

/-- PLAY by the stream's state (R10 to R12), the arbitration apart. -/
def State.playAct (s : State) (n : Slot) : State :=
  match (s.stream n).state with
  | .idle =>
    (((s.modStream n Stream.startOfPlayback).enterStarting n).reallocate).readinessTest n
  | .paused =>
    if (s.stream n).buffer = [] then (s.enterStarting n).readinessTest n else s.enterPlaying n .resume
  | .closed | .starting | .playing | .rebuffering | .ended => s

/-- PLAY (R10 to R12): every accepted PLAY, repeats included, is an arbitration event. -/
def execPlay (body : List Byte) (s : State) : Out :=
  .next (s.requestIf (playctlRow .play body) 0x14 body (fun s => s.checkPlayctl body Stream.playAllowed) fun r s =>
    ((s.playAct r.slot).arbitrate).replyState r.slot)

/-- The states in which PAUSE is accepted (R10). -/
def Stream.pauseAllowed (st : Stream) : Bool := st.active

/-- PAUSE (R13): in PAUSED nothing changes; else the timer of the state stops, and from PLAYING the gate closes. -/
def State.pauseAct (s : State) (n : Slot) : State :=
  if (s.stream n).state = .paused then s
  else (s.leavePlaying n .pause).modStream n fun st =>
    { st with state := .paused, startTimer := none, stallTimer := none, overdue := false }

/-- PAUSE (R13). -/
def execPause (body : List Byte) (s : State) : Out :=
  .next (s.requestIf (playctlRow .pause body) 0x14 body (fun s => s.checkPlayctl body Stream.pauseAllowed) fun r s =>
    (s.pauseAct r.slot).replyState r.slot)

/-- The states in which SEEK and STOP are accepted (R10). -/
def Stream.seekAllowed (st : Stream) : Bool := st.active || st.state == .ended

/-- Steps 1 to 5 of SEEK and of STOP (R19, R20): records dropped, window and buffer emptied, margin and hold re-evaluated, a
pending probe and a rescue cleared, and from PLAYING the gate closed. -/
def State.emptyStream (s : State) (n : Slot) (d : DropReason) (g : GateReason) : State :=
  let s1 := (s.dropStream n d).modStream n fun st => st.emptyWindow.emptyBuffer
  ((s1.reevaluate n).modStream n Stream.clearProbeAndRescue).leavePlaying n g

/-- SEEK (R19), the arbitration apart. -/
def State.seekAct (s : State) (n : Slot) : State :=
  let s1 := ((s.emptyStream n .seek .seek).modStream n fun st => { st with prevGrant := none, startLimit := true }).enterStarting n
  (s1.reallocateIf !(s.stream n).active).readinessTest n

/-- SEEK (R19). -/
def execSeek (body : List Byte) (s : State) : Out :=
  .next (s.requestIf (playctlRow .seek body) 0x14 body (fun s => s.checkPlayctl body Stream.seekAllowed) fun r s =>
    ((s.seekAct r.slot).settle s).replyState r.slot)

/-- STOP (R20), the arbitration apart: the state becomes IDLE and the ladder, the ceiling and the current rung are kept. -/
def State.stopAct (s : State) (n : Slot) : State :=
  ((s.emptyStream n .stop .stop).modStream n fun st =>
    { st with state := .idle, startTimer := none, stallTimer := none, overdue := false, startLimit := false }).reallocateIf
    (s.stream n).active

/-- STOP (R20). -/
def execStop (body : List Byte) (s : State) : Out :=
  .next (s.requestIf (playctlRow .stop body) 0x14 body (fun s => s.checkPlayctl body Stream.seekAllowed) fun r s =>
    ((s.stopAct r.slot).settle s).replyState r.slot)

/-! ### CLOSE (R21) -/

/-- A slot after CLOSE: CLOSED, its flags and masks kept (R21, R181). -/
def Stream.closedKeepingFlags (st : Stream) : Stream := { Stream.closed with flags := st.flags, mask := st.mask }

/-- CLOSE (R21), the arbitration apart. -/
def State.closeAct (s : State) (n : Slot) : State :=
  (((s.dropStream n .close).leavePlaying n .close).modStream n Stream.closedKeepingFlags).reallocateIf
    (s.stream n).active

/-- CLOSE (R21): the records it frees are its arbitration event; a hold that it clears is none (R92). -/
def execClose (body : List Byte) (s : State) : Out :=
  .next (s.request 0x15 body (fun s => s.openStream (parseSlot body) id) fun n s =>
    let s1 := s.closeAct n
    (if s1.recordFreed s then s1.arbitrate else s1).reply 0x15 .ok [])

/-! ### POSITION (R89, R90) -/

/-- The buffer queue from the entry of segment `seg` on, that entry with `duration − off` remaining (R90 steps 1 and 2);
nothing where the queue holds no such entry or the offset is not less than its duration (R89). -/
def resync (seg off : Nat) : List BufferEntry → Option (List BufferEntry)
  | [] => none
  | b :: bs =>
    if b.segment = seg then
      if off < b.duration then some ({ b with remaining := b.duration - off } :: bs) else none
    else resync seg off bs

/-- The states in which POSITION is accepted (R89). -/
def Stream.positionAllowed (st : Stream) : Bool :=
  match st.state with
  | .playing | .paused | .rebuffering => true
  | .closed | .idle | .starting | .ended => false

/-- The checks of a POSITION (R89): the slot, and the buffer queue after the resynchronisation. -/
def State.checkPosition (s : State) (body : List Byte) : Except Status (Slot × List BufferEntry) :=
  match s.openStream (parsePosition body) PositionReq.slot with
  | .error e => .error e
  | .ok r =>
    if (s.stream r.slot).positionAllowed then
      match resync r.segment r.offset (s.stream r.slot).buffer with
      | some bs => .ok (r.slot, bs)
      | none => .error .outOfRange
    else .error .wrongState

/-- POSITION (R90): the queue takes the renderer's position, the accumulator becomes 0, margin and hold are re-evaluated and, in
REBUFFERING, the readiness test is made; the reply carries B. -/
def execPosition (body : List Byte) (s : State) : Out :=
  .next (s.request 0x16 body (fun s => s.checkPosition body) fun r s =>
    let s1 := (s.modStream r.1 fun st => { st with buffer := r.2, acc := 0 }).windowChanged r.1
    (s1.settle s).reply 0x16 .ok (beBytes 3 (s1.stream r.1).occupancy))

/-! ### PROBE (R148) -/

/-- The checks of a PROBE (R148): BUSY, then NOT_NOW. -/
def State.checkProbe (s : State) (body : List Byte) : Except Status Slot :=
  match s.openStream (parseSlot body) id with
  | .error e => .error e
  | .ok n =>
    let st := s.stream n
    if st.probePending ∨ st.probeLive then .error .busy
    else if st.state ≠ .playing ∨ s.cls.zone = .jammed ∨ st.current = st.top then .error .notNow
    else .ok n

/-- PROBE (R148): a probe becomes pending, which is an arbitration event. -/
def execProbe (body : List Byte) (s : State) : Out :=
  .next (s.request 0x17 body (fun s => s.checkProbe body) fun n s =>
    ((s.modStream n fun st => { st with probePending := true }).arbitrate).reply 0x17 .ok [])

end Sys2Proof.Machine
end

