-- ==== Sys2Proof/Machine/Reports.lean ====
section
/-! DEFINITION. The family of reports: TALLY, LANDED and BROKEN of a fetch (chapter 3), and LINK of the link's condition
(chapters 5 and 6). -/

namespace Sys2Proof.Machine

/-! ### Reports of a fetch (R59 to R63) -/

/-- The record that a report's tag reaches (R59): live, the tag not 0, and announced. -/
def State.reachable (s : State) (tag : Nat) : Option Record :=
  match s.recordOf tag with
  | some r => if tag ≠ 0 ∧ r.announcePending = false then some r else none
  | none => none

/-- The checks of a TALLY or a LANDED (R59): STALE_TAG, then BAD_FIELD for a count lower than the bytes reported. -/
def State.checkCount (s : State) (body : List Byte) : Except Status (Record × Nat) :=
  match parseCount body with
  | .error e => .error e
  | .ok q =>
    match s.reachable q.tag with
    | none => .error .staleTag
    | some r => if q.bytes < r.reported then .error .badField else .ok (r, q.bytes)

/-- Bytes reported are added to the interval byte count, which stays at 4,294,967,295 where it would pass it (R95). -/
def State.countBytes (s : State) (k : Nat) : State :=
  { s with est := { s.est with intervalBytes := min (s.est.intervalBytes + k) 4294967295 } }

/-- TALLY (R60): the difference is counted, the count stored, the record RUNNING. -/
def execTally (body : List Byte) (s : State) : Out :=
  .next (s.request 0x18 body (fun s => s.checkCount body) fun q s =>
    ((s.countBytes (q.2 - q.1.reported)).changeRecord q.1.tag fun r => { r with reported := q.2, running := true }).reply
      0x18 .ok [])

/-- The rung selector's part of a landing (R62): the start limit ends, and a PROBE record's landing is a success. -/
def State.landingReported (s : State) (r : Record) : State :=
  let s1 := s.modStream r.slot fun st => { st with startLimit := false }
  if r.isNormal then s1 else s1.probeSuccess r.slot r.rung

/-- LANDED, the arbitration apart (R61 steps 1 to 4). -/
def State.landAct (s : State) (r : Record) (bytes : Nat) : State :=
  ((((s.countBytes (bytes - r.reported)).freeRecord r.tag).landEntry r.slot r.segment r.rung bytes).contiguousMove
    r.slot).landingReported r

/-- LANDED (R61). -/
def execLanded (body : List Byte) (s : State) : Out :=
  .next (s.request 0x19 body (fun s => s.checkCount body) fun q s =>
    ((s.landAct q.1 q.2).arbitrate).reply 0x19 .ok [])

/-- The checks of a BROKEN (R59). -/
def State.checkBroken (s : State) (body : List Byte) : Except Status Record :=
  match parseBroken body with
  | .error e => .error e
  | .ok tag =>
    match s.reachable tag with
    | none => .error .staleTag
    | some r => .ok r

/-- BROKEN, the arbitration apart (R63): a failure claim for a NORMAL or REFETCH record, a probe failure for a PROBE
record. -/
def State.breakAct (s : State) (r : Record) : State :=
  let s1 := s.freeRecord r.tag
  if r.isNormal then s1.failEntry r.slot r.segment
  else ((s1.returnEntry r.slot r.segment).windowChanged r.slot).probeFailure r.slot

/-- BROKEN (R63). -/
def execBroken (body : List Byte) (s : State) : Out :=
  .next (s.request 0x1A body (fun s => s.checkBroken body) fun r s =>
    ((s.breakAct r).arbitrate).reply 0x1A .ok [])

/-! ### LINK (R101, R108 to R118) -/

/-- The sag trim after a round-trip time (R101). -/
def Estimator.trimAfter (e : Estimator) (rtt : Nat) : Nat :=
  if e.sagLimit < rtt then max 8 (e.sagTrim - 1)
  else if rtt < e.sagLimit * 3 / 4 then min 16 (e.sagTrim + 1)
  else e.sagTrim

/-- The trim moves, and SAG rises where the sag becomes active or inactive, active meaning a trim below 16 (R102). -/
def State.sagStep (s : State) (rtt : Nat) : State :=
  let t := s.est.trimAfter rtt
  { s with est := { s.est with sagTrim := t } }.raiseDeviceIf (decide (s.est.sagTrim < 16) != decide (t < 16)) .sag

/-- The level a value reaches under three thresholds (R110). -/
def levelAt (t : Thresholds) (v : Nat) : Zone :=
  if t.jammed ≤ v then .jammed else if t.crowded ≤ v then .crowded else if t.busy ≤ v then .busy else .clear

/-- The higher of two levels (R110). -/
def Zone.higher (a b : Zone) : Zone := if a.code < b.code then b else a

/-- The raw level of a report (R110). -/
def Classifier.rawLevel (c : Classifier) (retry airtime : Nat) : Zone :=
  (levelAt c.retry retry).higher (levelAt c.airtime airtime)

/-- The zone becomes `z`, and ZONE rises for the change (R111, R113, R176). -/
def State.toZone (s : State) (z : Zone) : State :=
  { s with cls := { s.cls with zone := z } }.raiseDeviceIf (s.cls.zone != z) .zone

/-- The CROWDED ceiling fall of every open stream holding a ladder (R117). -/
def State.crowdedFall (s : State) : State := s.forSlots fun n s => s.fall n ((s.stream n).ceiling - 1)

/-- The floor of a stream's ceiling in JAMMED (R118). -/
def State.floor (s : State) (n : Slot) : Nat :=
  let c := (s.stream n).cfg
  if isProtected s.sharing.protect c.priority then c.guardRung else 0

/-- The live PROBE records, in the order their drops are taken, which the spec leaves open (log entry 5). -/
def State.probesToDrop (s : State) : List Record :=
  freeOrder s.choices (s.pool.records.filter fun r => !r.isNormal)

/-- Entry to JAMMED (R118): ceilings clamped to their floors, pending probes cancelled, PROBE records dropped with reason
ZONE. -/
def State.enterJammed (s : State) : State :=
  let s1 := (s.forSlots fun n s => s.fall n (s.floor n)).forSlots fun n s =>
    s.modStream n fun st => { st with probePending := false }
  s1.probesToDrop.foldl (fun s r => s.failProbe r .zone) { s1 with choices := s1.choices + 1 }

/-- A rise of the zone to `z` (R111): the dwell timer stops, the zone rises, and the effects of entering CROWDED from below and
of entering JAMMED follow. -/
def State.zoneRise (s : State) (z : Zone) : State :=
  let was := s.cls.zone
  let s1 := { s with cls := { s.cls with dwellTimer := none } }.toZone z
  let s2 := if was.code < Zone.crowded.code ∧ Zone.crowded.code ≤ z.code then s1.crowdedFall else s1
  if z = .jammed then s2.enterJammed else s2

/-- A report at or below the zone (R112): below it the dwell timer runs, started if it was stopped; at it the timer stops. -/
def State.dwellStep (s : State) (raw : Zone) : State :=
  { s with cls := { s.cls with dwellTimer :=
      if raw.code < s.cls.zone.code then some (s.cls.dwellTimer.getD (s.now + s.cls.dwell)) else none } }

/-- The raw level is stored and the zone or the dwell timer follows it (R110 to R112). -/
def State.classify (s : State) (raw : Zone) : State :=
  let s1 := { s with cls := { s.cls with raw := raw } }
  if s.cls.zone.code < raw.code then s1.zoneRise raw else s1.dwellStep raw

/-- The rung selector is told of a change of zone from `was` (R146): into JAMMED every step timer stops; out of JAMMED the timer
of every open stream whose C is below its top rung starts from zero. -/
def State.zoneTold (s : State) (was : Zone) : State :=
  if s.cls.zone = was then s
  else if s.cls.zone = .jammed then s.forSlots fun n s => s.modStream n fun st => { st with stepTimer := none }
  else if was = .jammed then
    s.forSlots fun n s => s.modStream n fun st => { st with stepTimer := s.restartedStep st st.ceiling }
  else s

/-- U is recomputed where the trim or the zone has changed since `before` (R105, R115 step 4). -/
def State.linkUsable (s before : State) : State :=
  if s.est.sagTrim = before.est.sagTrim ∧ s.cls.zone = before.cls.zone then s else s.recomputeUsable

/-- LINK, the arbitration apart, in the order of R115. -/
def State.linkAct (s : State) (r : LinkReq) : State :=
  (((s.sagStep r.rtt).classify (s.cls.rawLevel r.retry r.airtime)).zoneTold s.cls.zone).linkUsable s

/-- LINK (R108, R115): the records freed by entry to JAMMED are its arbitration event. -/
def execLink (body : List Byte) (s : State) : Out :=
  .next (s.request 0x1B body (fun _ => parseLink body) fun r s =>
    ((s.linkAct r).settle s).reply 0x1B .ok [])

end Sys2Proof.Machine
end

