-- ==== Sys2Proof/Machine/Timers.lean ====
section
/-! DEFINITION. The family of timer expiries: start and stall timers (chapter 1), drain steps (chapter 4), record deadlines
(chapter 3), the sample timer (chapter 5), the dwell timer (chapter 6) and the envelope step timer (chapter 8). -/

namespace Sys2Proof.Machine

/-! ### Start and stall timers -/

/-- START_TIMER_EXPIRY (R15): START_LATE rises; a stream with a buffer entry enters PLAYING, one without waits with start overdue
set. -/
def execStartTimerExpiry (n : Slot) (s : State) : Out :=
  .next (s.whenRunning fun s => s.atExpiry (s.stream n).startTimer fun s =>
    let s1 := (s.modStream n fun st => { st with startTimer := none }).raise n .startLate
    if (s.stream n).buffer = [] then s1.modStream n fun st => { st with overdue := true }
    else s1.enterPlaying n .start)

/-- STALL_TIMER_EXPIRY (R17): STALL_LONG rises and the ceiling falls to 0. -/
def execStallTimerExpiry (n : Slot) (s : State) : Out :=
  .next (s.whenRunning fun s => s.atExpiry (s.stream n).stallTimer fun s =>
    ((s.modStream n fun st => { st with stallTimer := none }).raise n .stallLong).fall n 0)

/-! ### Drain steps (R74 to R77, R84 to R88) -/

/-- What a drain amount leaves of a buffer queue, and the drain left over (R76). -/
def drainQueue : Nat → List BufferEntry → List BufferEntry × Nat
  | amount, [] => ([], amount)
  | amount, b :: bs =>
    if amount = 0 then (b :: bs, 0)
    else if amount < b.remaining then ({ b with remaining := b.remaining - amount } :: bs, 0)
    else drainQueue (amount - b.remaining) bs

/-- The accumulator after step 1 of a drain step (R75). -/
def Stream.accGained (st : Stream) : Nat := st.acc + st.cfg.playbackRate * 10

/-- The drain amount, in ms (R75). -/
def Stream.drainAmount (st : Stream) : Nat := st.accGained / 256

/-- The stream after R75 and R76; the drain timer expires again 10 ms after this expiry (R74). -/
def Stream.drained (st : Stream) : Stream :=
  { st with acc := st.accGained % 256, buffer := (drainQueue st.drainAmount st.buffer).1,
            drainTimer := st.drainTimer.map (· + 10) }

/-- The rescue test on a record (R86). -/
def Record.rescueTest (r : Record) : Bool :=
  match r.kind, r.expected with
  | .normal, some m => decide (r.reported < (m + r.init.getD 0) / 2 ∧ 0 < r.rung)
  | _, _ => false

/-- Step 3 of the underrun handling: the live PROBE record is dropped with reason STALL (R85). -/
def State.stallProbe (s : State) (n : Slot) : State :=
  match s.probeRecord n with
  | some r => s.failProbe r .stall
  | none => s

/-- Step 4 of the underrun handling: the rescue (R86, R137). -/
def State.rescue (s : State) (n : Slot) : State :=
  match s.normalRecord n with
  | some r =>
    if r.rescueTest then
      (s.dropToWaiting r .rescue).modStream n fun st => { st with rescuePending := true }
    else s
  | none => s

/-- Step 1 of the underrun handling: REBUFFERING, the gate closed with reason STALL, the stall timer started, STALL raised
(R16). The readiness test made on entry fails, since the queue is empty and the stream is not final-known with an empty
window (R16). -/
def State.enterRebuffering (s : State) (n : Slot) : State :=
  ((s.leavePlaying n .stall).modStream n fun st =>
    { st with state := .rebuffering, stallTimer := some (s.now + st.cfg.stallTimeout) }).raise n .stall

/-- The underrun handling, its arbitration apart (R84). -/
def State.underrun (s : State) (n : Slot) : State :=
  let s1 := s.enterRebuffering n
  ((s1.fall n ((s1.stream n).current - 2)).stallProbe n).rescue n

/-- The end of the presentation (R18, R88): ENDED, the gate closed with reason END, END raised, the shares re-run. -/
def State.endOfPresentation (s : State) (n : Slot) : State :=
  ((((s.leavePlaying n .ended).modStream n fun st => { st with state := .ended }).raise n .ended)).reallocate

/-- What a drain step ends in (R77): with the queue empty and drain left over, the end or an underrun. -/
def State.drainEnd (s : State) (n : Slot) (left : Nat) : State :=
  let st := s.stream n
  if st.buffer = [] ∧ 0 < left then
    if st.window = [] ∧ st.finalKnown then s.endOfPresentation n else s.underrun n
  else s

/-- A drain step, its arbitration apart (R75 to R77). -/
def State.drainAct (s : State) (n : Slot) : State :=
  let st := s.stream n
  ((s.modStream n Stream.drained).reevaluate n).drainEnd n (drainQueue st.drainAmount st.buffer).2

/-- DRAIN_STEP (R75). -/
def execDrainStep (n : Slot) (s : State) : Out :=
  .next (s.whenRunning fun s => s.atExpiry (s.stream n).drainTimer fun s => (s.drainAct n).settle s)

/-! ### Deadlines (R64, R65) -/

/-- The deadline expiry of a NORMAL or REFETCH record, its arbitration apart (R64). -/
def State.expireNormal (s : State) (r : Record) : State :=
  (((s.dropRecord r .deadline).failEntry r.slot r.segment).raise r.slot .abandon).fall r.slot (r.rung - 1)

/-- DEADLINE_EXPIRY (R64). -/
def execDeadlineExpiry (tag : Nat) (s : State) : Out :=
  .next (s.whenRunning fun s =>
    match s.recordOf tag with
    | some r => if r.isNormal then ((s.reach r.deadline).expireNormal r).arbitrate else s
    | none => s)

/-- PROBE_DEADLINE_EXPIRY (R65). -/
def execProbeDeadlineExpiry (tag : Nat) (s : State) : Out :=
  .next (s.whenRunning fun s =>
    match s.recordOf tag with
    | some r => if r.isNormal then s else ((s.reach r.deadline).failProbe r .deadline).arbitrate
    | none => s)

/-! ### The link's timers -/

/-- The sample of the ending interval, in kbit/s (R97). -/
def Estimator.sample (e : Estimator) : Nat := min (e.intervalBytes * 16 / 1000) 1000000

/-- The three estimates after the ending interval (R97). -/
def Estimator.sampled (e : Estimator) : Estimator :=
  if e.intervalBusy then
    let f := (e.fast + e.sample) / 2
    let sl := (7 * e.slow + e.sample) / 8
    { e with fast := f, slow := sl, estimate := min f sl }
  else e

/-- The estimator after an expiry of the sample timer (R96, R97): the sample, then the count and busy of the new interval. -/
def State.sampleAct (s : State) : State :=
  let e := s.est.sampled
  let s1 := { s with est := { e with intervalBytes := 0, intervalBusy := decide (1 ≤ s.liveCount),
                                     sampleTimer := e.sampleTimer + 500 } }
  if e.estimate = s.est.estimate then s1 else s1.recomputeUsable

/-- SAMPLE_TIMER_EXPIRY (R97). -/
def execSampleTimerExpiry (s : State) : Out :=
  .next (s.whenRunning fun s => s.atExpiry (some s.est.sampleTimer) State.sampleAct)

/-- The level below a zone (R113). -/
def Zone.below : Zone → Zone
  | .jammed => .crowded
  | .crowded => .busy
  | .busy | .clear => .clear

/-- The fall of the zone by one level (R113, R115): ZONE rises, the dwell restarts where the raw level is still below, the rung
selector is told, and U is recomputed. -/
def State.dwellAct (s : State) : State :=
  let z := s.cls.zone.below
  let s1 := { s with cls := { s.cls with dwellTimer := if s.cls.raw.code < z.code then some (s.now + s.cls.dwell) else none } }
  ((s1.toZone z).zoneTold s.cls.zone).recomputeUsable

/-- DWELL_EXPIRY (R113). -/
def execDwellExpiry (s : State) : Out :=
  .next (s.whenRunning fun s => s.atExpiry s.cls.dwellTimer State.dwellAct)

/-- Auto-probe is due at an envelope expiry in CROWDED (R149). -/
def Stream.autoProbeDue (st : Stream) : Bool :=
  st.cfg.autoProbe && st.state == .playing && !st.probePending && !st.probeLive && decide (st.current < st.top) &&
    decide (st.cfg.target ≤ st.occupancy)

/-- An expiry of the envelope step timer (R145): in CLEAR and BUSY C rises by one; in CROWDED auto-probe is considered, a probe
made pending being an arbitration event taken after the restart of the timer. The timer does not run in JAMMED. -/
def State.envelopeAct (s : State) (n : Slot) : State :=
  match s.cls.zone with
  | .clear | .busy =>
    s.modStream n fun st => { st with ceiling := st.ceiling + 1, stepTimer := s.restartedStep st (st.ceiling + 1) }
  | .crowded =>
    let s1 := s.modStream n fun st => { st with stepTimer := s.restartedStep st st.ceiling }
    if (s.stream n).autoProbeDue then (s1.modStream n fun st => { st with probePending := true }).arbitrate else s1
  | .jammed => s

/-- ENVELOPE_STEP_EXPIRY (R145). -/
def execEnvelopeStepExpiry (n : Slot) (s : State) : Out :=
  .next (s.whenRunning fun s => s.atExpiry (s.stream n).stepTimer fun s => s.envelopeAct n)

end Sys2Proof.Machine
end

