-- ==== Sys2Proof/Machine/Dispatch.lean ====
section
/-! DEFINITION. One arm per command: a direct call of its meaning. -/

namespace Sys2Proof.Machine

def exec (i : Instr) (s : State) : Host.Outcome State Fault Refusal :=
  match i with
  -- NRST, the time base and the line
  | .nrstAssert => Sys2Proof.Machine.execNrstAssert s
  | .nrstRelease => Sys2Proof.Machine.execNrstRelease s
  | .timeBaseStart => Sys2Proof.Machine.execTimeBaseStart s
  | .receiveByte b stopLow => Sys2Proof.Machine.execReceiveByte b stopLow s
  | .gapTimerExpiry => Sys2Proof.Machine.execGapTimerExpiry s
  | .unknownKindRequest kind body => Sys2Proof.Machine.execUnknownKindRequest kind body s
  | .transmitStart => Sys2Proof.Machine.execTransmitStart s
  | .transmitComplete => Sys2Proof.Machine.execTransmitComplete s
  -- requests of the link port and the flag unit
  | .ident body => Sys2Proof.Machine.execIdent body s
  | .restartStreams body => Sys2Proof.Machine.execRestartStreams body s
  | .restartAll body => Sys2Proof.Machine.execRestartAll body s
  | .limits body => Sys2Proof.Machine.execLimits body s
  | .mask body => Sys2Proof.Machine.execMask body s
  | .flags body => Sys2Proof.Machine.execFlags body s
  | .queryStream body => Sys2Proof.Machine.execQueryStream body s
  | .queryLink body => Sys2Proof.Machine.execQueryLink body s
  | .queryRecord body => Sys2Proof.Machine.execQueryRecord body s
  -- requests that carry a slot
  | .openSlot body => Sys2Proof.Machine.execOpenSlot body s
  | .tune body => Sys2Proof.Machine.execTune body s
  | .ladder body => Sys2Proof.Machine.execLadder body s
  | .append body => Sys2Proof.Machine.execAppend body s
  | .play body => Sys2Proof.Machine.execPlay body s
  | .pause body => Sys2Proof.Machine.execPause body s
  | .seek body => Sys2Proof.Machine.execSeek body s
  | .stop body => Sys2Proof.Machine.execStop body s
  | .close body => Sys2Proof.Machine.execClose body s
  | .position body => Sys2Proof.Machine.execPosition body s
  | .probe body => Sys2Proof.Machine.execProbe body s
  -- reports
  | .tally body => Sys2Proof.Machine.execTally body s
  | .landed body => Sys2Proof.Machine.execLanded body s
  | .broken body => Sys2Proof.Machine.execBroken body s
  | .link body => Sys2Proof.Machine.execLink body s
  -- timers
  | .startTimerExpiry n => Sys2Proof.Machine.execStartTimerExpiry n s
  | .stallTimerExpiry n => Sys2Proof.Machine.execStallTimerExpiry n s
  | .drainStep n => Sys2Proof.Machine.execDrainStep n s
  | .deadlineExpiry tag => Sys2Proof.Machine.execDeadlineExpiry tag s
  | .probeDeadlineExpiry tag => Sys2Proof.Machine.execProbeDeadlineExpiry tag s
  | .sampleTimerExpiry => Sys2Proof.Machine.execSampleTimerExpiry s
  | .dwellExpiry => Sys2Proof.Machine.execDwellExpiry s
  | .envelopeStepExpiry n => Sys2Proof.Machine.execEnvelopeStepExpiry n s

end Sys2Proof.Machine
end

