-- ==== Sys2Proof/Machine/Schedule.lean ====
section
/-! DEFINITION. What the part does of its own when no command waits: the events that are due, one at a time, and else the passing
of time (log entry 4). -/

namespace Sys2Proof.Machine

/-- The events that happen at once: the idle transmitter takes the head of the queue (R156), and the decoder takes the head of the
receive buffer while the transmit queue holds fewer than 32 frames (R160). -/
def State.readyEvents (s : State) : List Instr :=
  (if s.tx.sending = none ∧ s.tx.queue ≠ [] then [.transmitStart] else []) ++
    match s.rx.buffer with
    | f :: _ => if s.tx.queue.length < 32 then [commandOf f] else []
    | [] => []

/-- A timer is due: it runs and its expiry time has come. -/
def State.isDue (s : State) (timer : Option Nat) : Bool :=
  match timer with
  | some e => decide (e ≤ s.now)
  | none => false

/-- The expiry of a timer, where it is due. -/
def State.ifDue (s : State) (timer : Option Nat) (c : Instr) : List Instr := if s.isDue timer then [c] else []

/-- The expiries of stream n's timers that are due. -/
def State.streamDue (s : State) (n : Slot) : List Instr :=
  s.ifDue (s.stream n).startTimer (.startTimerExpiry n) ++ s.ifDue (s.stream n).stallTimer (.stallTimerExpiry n) ++
    s.ifDue (s.stream n).drainTimer (.drainStep n) ++ s.ifDue (s.stream n).stepTimer (.envelopeStepExpiry n)

/-- The deadline expiry of a record, where it is due. -/
def State.recordDue (s : State) (r : Record) : List Instr :=
  s.ifDue (some r.deadline) (if r.isNormal then .deadlineExpiry r.tag else .probeDeadlineExpiry r.tag)

/-- Every timer expiry that is due. -/
def State.dueEvents (s : State) : List Instr :=
  s.ifDue s.rx.gapTimer .gapTimerExpiry ++ s.ifDue (some s.est.sampleTimer) .sampleTimerExpiry ++
    s.ifDue s.cls.dwellTimer .dwellExpiry ++ slots.flatMap s.streamDue ++ s.pool.records.flatMap s.recordDue

/-- Time passes: to the end of the frame under transmission where that comes within this millisecond, else to the next
millisecond of the time base (R156: 5 us of line time a byte). -/
def State.passTime (s : State) : State :=
  match s.tx.sending with
  | some f =>
    if s.micros + f.left < 1000 then
      { s with micros := s.micros + f.left, pending := [.transmitComplete] }
    else
      { s with now := s.now + 1, micros := 0, tx := { s.tx with sending := some { f with left := f.left - (1000 - s.micros) } } }
  | none => { s with now := s.now + 1, micros := 0 }

/-- The part with no command waiting takes up one of the events that are ready or due, any of them (log entry 5). The next idle
step reads the timers again, so that an expiry whose timer this event restarts or stops does not occur (R15, R53, R66, R144, R155);
time passes when none is left. Before the time base starts there is no time and nothing happens (R174). -/
def State.idle (s : State) : State :=
  if s.phase = .running then
    match freeOrder s.choices (s.readyEvents ++ s.dueEvents) with
    | [] => s.passTime
    | c :: _ => { s with choices := s.choices + 1, pending := [c] }
  else s

end Sys2Proof.Machine
end

