-- ==== Sys2Proof/WellFormed.lean ====
section
/-! DEFINITION. Which commands are well formed: a request row's body fits a frame and is of that row, an unknown kind is no
request kind, a deadline's tag is one a record can hold. An ill-formed command names no event of the part. -/

namespace Sys2Proof

open Machine

/-- A body that a frame can carry: the frame length is at most 250 (R157). -/
def bodyFits (body : List Byte) : Bool := decide (body.length < 250)

/-- A tag that a fetch record can hold (R44). -/
def tagFits (tag : Nat) : Bool := decide (1 ≤ tag ∧ tag ≤ 255)

/-- The command is well formed. -/
def Instr.wf : Instr → Bool
  | .nrstAssert => true
  | .nrstRelease => true
  | .timeBaseStart => true
  | .receiveByte _ _ => true
  | .gapTimerExpiry => true
  | .unknownKindRequest kind body => bodyFits body && !requestKinds.contains kind
  | .transmitStart => true
  | .transmitComplete => true
  | .ident body => bodyFits body
  | .restartStreams body => bodyFits body && restartRow .streams body
  | .restartAll body => bodyFits body && restartRow .all body
  | .limits body => bodyFits body
  | .mask body => bodyFits body
  | .flags body => bodyFits body
  | .queryStream body => bodyFits body && queryStreamRow body
  | .queryLink body => bodyFits body && queryLinkRow body
  | .queryRecord body => bodyFits body && queryRecordRow body
  | .openSlot body => bodyFits body
  | .tune body => bodyFits body
  | .ladder body => bodyFits body
  | .append body => bodyFits body
  | .play body => bodyFits body && playctlRow .play body
  | .pause body => bodyFits body && playctlRow .pause body
  | .seek body => bodyFits body && playctlRow .seek body
  | .stop body => bodyFits body && playctlRow .stop body
  | .close body => bodyFits body
  | .position body => bodyFits body
  | .probe body => bodyFits body
  | .tally body => bodyFits body
  | .landed body => bodyFits body
  | .broken body => bodyFits body
  | .link body => bodyFits body
  | .startTimerExpiry _ => true
  | .stallTimerExpiry _ => true
  | .drainStep _ => true
  | .deadlineExpiry tag => tagFits tag
  | .probeDeadlineExpiry tag => tagFits tag
  | .sampleTimerExpiry => true
  | .dwellExpiry => true
  | .envelopeStepExpiry _ => true

end Sys2Proof
end

