-- ==== Sys2Proof/Safety.lean ====
section
/-! DEFINITION. The terms of the statements: when a request is taken, which frame a command carries, the bodies of the
requests as the host writes them, what an event leaves unchanged, and the sound states of the part, those that the spec's
rules promise between events. -/

namespace Sys2Proof.Machine

/-! ### Taking a request -/

/-- The decoder takes the frame when its command is taken (R160): the time base runs, the transmit queue holds fewer than 32
frames, and the frame is the head of the receive buffer or arrives whole at an empty one (log entry 2). -/
abbrev State.atDoor (s : State) (f : Frame) : Prop :=
  s.phase = .running ∧ s.tx.queue.length < 32 ∧
    (s.rx.buffer.head? = some f ∨ (s.rx.buffer = [] ∧ s.rx.receiver = .hunt ∧ f.body.length < 250))

/-- The kind and body of the frame a request row carries, none for the other rows. -/
def requestFrame : Instr → Option Frame
  | .unknownKindRequest kind body => some ⟨kind, body⟩
  | .ident body => some ⟨0x01, body⟩
  | .restartStreams body => some ⟨0x02, body⟩
  | .restartAll body => some ⟨0x02, body⟩
  | .limits body => some ⟨0x03, body⟩
  | .mask body => some ⟨0x04, body⟩
  | .flags body => some ⟨0x05, body⟩
  | .queryStream body => some ⟨0x06, body⟩
  | .queryLink body => some ⟨0x06, body⟩
  | .queryRecord body => some ⟨0x06, body⟩
  | .openSlot body => some ⟨0x10, body⟩
  | .tune body => some ⟨0x11, body⟩
  | .ladder body => some ⟨0x12, body⟩
  | .append body => some ⟨0x13, body⟩
  | .play body => some ⟨0x14, body⟩
  | .pause body => some ⟨0x14, body⟩
  | .seek body => some ⟨0x14, body⟩
  | .stop body => some ⟨0x14, body⟩
  | .close body => some ⟨0x15, body⟩
  | .position body => some ⟨0x16, body⟩
  | .probe body => some ⟨0x17, body⟩
  | .tally body => some ⟨0x18, body⟩
  | .landed body => some ⟨0x19, body⟩
  | .broken body => some ⟨0x1A, body⟩
  | .link body => some ⟨0x1B, body⟩
  | .nrstAssert | .nrstRelease | .timeBaseStart | .receiveByte _ _ | .gapTimerExpiry | .transmitStart
  | .transmitComplete | .startTimerExpiry _ | .stallTimerExpiry _ | .drainStep _ | .deadlineExpiry _
  | .probeDeadlineExpiry _ | .sampleTimerExpiry | .dwellExpiry | .envelopeStepExpiry _ => none

/-- The commands that NRST, power and the time base make (R174). -/
def isPowerRow : Instr → Bool
  | .nrstAssert | .nrstRelease | .timeBaseStart => true
  | _ => false

/-! ### Checks 2 and 3 of the decoder (R160), read off a frame's bytes -/

/-- The walk over `k` entries of an APPEND ends where the bytes end (R34). -/
def walkEnds : Nat → List Byte → Bool
  | 0, bs => bs.isEmpty
  | k + 1, bs => decide (8 + 3 * field bs 7 1 ≤ bs.length) && walkEnds k (bs.drop (8 + 3 * field bs 7 1))

/-- The body lengths that fit a request kind, the frame length being one more (R162 and the rules it names). An APPEND fits by
its entries (R34) and a QUERY by its view code (R168). -/
def lengthFits (f : Frame) : Bool :=
  match f.kind.toNat with
  | 0x01 | 0x05 => f.body.length == 0
  | 0x02 | 0x15 | 0x17 => f.body.length == 1
  | 0x03 => f.body.length == 21
  | 0x04 => f.body.length == 9
  | 0x06 =>
    match f.body with
    | [] => false
    | view :: _ =>
      if view = 1 then f.body.length == 3
      else if view = 2 then f.body.length == 1
      else if view = 3 then f.body.length == 2
      else decide (f.body.length ≤ 3)
  | 0x10 => f.body.length == 2 || f.body.length == 19
  | 0x11 => f.body.length == 13
  | 0x12 => [8, 14, 20, 26, 32, 38, 44, 50, 56, 62].contains f.body.length
  | 0x13 => decide (2 ≤ f.body.length) && walkEnds (field f.body 1 1) (f.body.drop 2)
  | 0x14 | 0x1A => f.body.length == 2
  | 0x16 => f.body.length == 7
  | 0x18 | 0x19 | 0x1B => f.body.length == 5
  | _ => true

/-- Where the entries of an APPEND begin in its body, `k` of them from the offset on (R34). -/
def entryOffsets (body : List Byte) : Nat → Nat → List Nat
  | 0, _ => []
  | k + 1, off => off :: entryOffsets body k (off + 8 + 3 * field body (off + 7) 1)

/-- A LADDER of a fitting length whose slot, rung count or rungs lie out of range (R25, R26). -/
def ladderOutOfRange (body : List Byte) : Bool :=
  let k := (body.length - 2) / 6
  let rate := fun i => field body (2 + 6 * i) 3
  decide (3 < field body 0 1 ∨ field body 1 1 ≠ k) ||
    (List.range k).any (fun i => decide (rate i < 32 ∨ 80000 < rate i ∨ 262143 < field body (5 + 6 * i) 3)) ||
    (List.range (k - 1)).any (fun i => decide (rate (i + 1) ≤ rate i))

/-- An APPEND of a fitting length whose slot, entry count or entries lie out of range, the checks that read the stream apart
(R34, R35). -/
def appendOutOfRange (body : List Byte) : Bool :=
  let k := field body 1 1
  let entries := entryOffsets body k 2
  decide (3 < field body 0 1 ∨ k = 0 ∨ 4 < k) ||
    entries.any (fun o => decide (field body (o + 4) 2 < 500 ∨ 10000 < field body (o + 4) 2 ∨ 4 ≤ field body (o + 6) 1 ∨
      10 < field body (o + 7) 1)) ||
    (entries.zip entries.tail).any (fun o => decide (field body o.2 4 ≠ field body o.1 4 + 1)) ||
    entries.dropLast.any (fun o => decide (2 ≤ field body (o + 6) 1))

/-- A field of a request of a fitting length lies out of its range, or breaks a field check that reads no state (R3, R6, R10, R21,
R25, R26, R34, R35, R59, R89, R108, R109, R148, R166, R168, R172, R177). -/
def outOfRange (f : Frame) : Bool :=
  let v := field f.body
  match f.kind.toNat with
  | 0x02 => decide (v 0 1 ≠ 1 ∧ v 0 1 ≠ 2)
  | 0x03 => !decide (64 ≤ v 0 3 ∧ v 0 3 ≤ 1000000 ∧ 256 ≤ v 3 3 ∧ v 3 3 ≤ 1000000 ∧ 1 ≤ v 6 1 ∧ v 6 1 ≤ 8 ∧ v 7 1 ≤ 4 ∧
      1 ≤ v 8 2 ∧ v 8 2 < v 10 2 ∧ v 10 2 < v 12 2 ∧ v 12 2 ≤ 1000 ∧
      1 ≤ v 14 1 ∧ v 14 1 < v 15 1 ∧ v 15 1 < v 16 1 ∧ v 16 1 ≤ 100 ∧
      500 ≤ v 17 2 ∧ v 17 2 ≤ 30000 ∧ 20 ≤ v 19 2 ∧ v 19 2 ≤ 2000)
  | 0x04 => decide (16 ≤ v 0 1 ∨ 2048 ≤ v 1 2 ∨ 2048 ≤ v 3 2 ∨ 2048 ≤ v 5 2 ∨ 2048 ≤ v 7 2)
  | 0x06 => decide (v 0 1 = 0 ∨ 3 < v 0 1 ∨ (v 0 1 = 1 ∧ (3 < v 1 1 ∨ 2 < v 2 1)))
  | 0x10 => decide (3 < v 0 1 ∨ 3 < v 1 1 ∨ (f.body.length = 19 ∧ ¬(v 2 1 ≤ 9 ∧ v 3 1 ≤ 9 ∧
      v 4 3 ≤ v 7 3 ∧ v 7 3 ≤ v 10 3 ∧ v 10 3 ≤ v 13 3 ∧ v 13 3 < v 16 3 ∧ v 16 3 ≤ 120000)))
  | 0x11 => decide (3 < v 0 1 ∨ ¬(v 1 2 = 1000 ∨ v 1 2 = 2000 ∨ v 1 2 = 4000 ∨ v 1 2 = 8000) ∨ 1 < v 3 1 ∨
      ¬(v 4 1 = 8 ∨ v 4 1 = 12) ∨ v 5 1 < 8 ∨ 32 < v 5 1 ∨ v 6 2 < 2000 ∨ 60000 < v 6 2 ∨ v 8 2 < 2000 ∨ 60000 < v 8 2 ∨
      v 10 2 < 128 ∨ 512 < v 10 2 ∨ 1 < v 12 1)
  | 0x12 => ladderOutOfRange f.body
  | 0x13 => appendOutOfRange f.body
  | 0x14 => decide (3 < v 0 1 ∨ v 1 1 = 0 ∨ 4 < v 1 1)
  | 0x15 | 0x17 => decide (3 < v 0 1)
  | 0x16 => decide (3 < v 0 1 ∨ 9999 < v 5 2)
  | 0x1A => decide (v 1 1 = 0 ∨ 4 < v 1 1)
  | 0x1B => decide (v 0 2 = 0 ∨ 5000 < v 0 2 ∨ 1000 < v 2 2 ∨ 100 < v 4 1)
  | _ => false

/-! ### The row a waiting frame belongs to -/

/-- The scope that the body of a RESTART names, 0 where it names none (R172). -/
def namedScope : List Byte → Nat
  | [x] => if x = 1 ∨ x = 2 then x.toNat else 0
  | _ => 0

/-- The action that the body of a PLAYCTL with a slot in range names, 0 where it names none (R10). -/
def namedAction : List Byte → Nat
  | [slot, x] => if slot.toNat ≤ 3 ∧ x.toNat ≤ 4 then x.toNat else 0
  | _ => 0

/-- The view that the body of a QUERY with its argument in range names, 0 where it names none (R168). -/
def namedView : List Byte → Nat
  | [view] => if view = 2 then 2 else 0
  | [view, _] => if view = 3 then 3 else 0
  | [view, slot, part] => if view = 1 ∧ slot.toNat ≤ 3 ∧ part.toNat ≤ 2 then 1 else 0
  | _ => 0

/-- The command is of the row its frame belongs to: by the scope, the action or the view it names, any row of the kind where it
names none (log entry 3); of UNKNOWN_KIND_REQUEST where the kind is no request kind (R160, R162). -/
def ownRow : Instr → Bool
  | .unknownKindRequest kind _ => !requestKinds.contains kind
  | .restartStreams body => namedScope body == 0 || namedScope body == 1
  | .restartAll body => namedScope body == 0 || namedScope body == 2
  | .play body => namedAction body == 0 || namedAction body == 1
  | .pause body => namedAction body == 0 || namedAction body == 2
  | .seek body => namedAction body == 0 || namedAction body == 3
  | .stop body => namedAction body == 0 || namedAction body == 4
  | .queryStream body => namedView body == 0 || namedView body == 1
  | .queryLink body => namedView body == 0 || namedView body == 2
  | .queryRecord body => namedView body == 0 || namedView body == 3
  | _ => true

/-! ### Events of the part itself -/

/-- What happens of its own at this moment: the idle transmitter takes a waiting frame (R156), the decoder takes the head of the
receive buffer with fewer than 32 frames in the transmit queue (R160), a running timer whose time has come expires (R15, R17,
R74, R96, R112, R144, R158), the deadline of a live record has come (R53). -/
def State.happensNow (s : State) : Instr → Prop
  | .transmitStart => s.tx.sending = none ∧ s.tx.queue ≠ []
  | .gapTimerExpiry => ∃ e ∈ s.rx.gapTimer, e ≤ s.now
  | .startTimerExpiry n => ∃ e ∈ (s.stream n).startTimer, e ≤ s.now
  | .stallTimerExpiry n => ∃ e ∈ (s.stream n).stallTimer, e ≤ s.now
  | .drainStep n => ∃ e ∈ (s.stream n).drainTimer, e ≤ s.now
  | .envelopeStepExpiry n => ∃ e ∈ (s.stream n).stepTimer, e ≤ s.now
  | .sampleTimerExpiry => s.est.sampleTimer ≤ s.now
  | .dwellExpiry => ∃ e ∈ s.cls.dwellTimer, e ≤ s.now
  | .deadlineExpiry tag => ∃ r ∈ s.pool.records, r.tag = tag ∧ r.kind ≠ .probe ∧ r.deadline ≤ s.now
  | .probeDeadlineExpiry tag => ∃ r ∈ s.pool.records, r.tag = tag ∧ r.kind = .probe ∧ r.deadline ≤ s.now
  | c => ∃ f rest, s.rx.buffer = f :: rest ∧ s.tx.queue.length < 32 ∧ requestFrame c = some f ∧ ownRow c = true

/-! ### The line as commands -/

/-- Bytes on CRX one after the other, each with a good stop bit. -/
def feedLine : List Byte → State → Out
  | [], s => .next s
  | b :: bs, s =>
    match exec (.receiveByte b false) s with
    | .next t => feedLine bs t
    | .fault e => .fault e
    | .refused r => .refused r

/-! ### Bodies as the host writes them (R3, R6, R10, R26, R34, R59, R89, R108, R166, R177) -/

/-- The short form of OPEN. -/
def shortOpenBody (n : Slot) (priority : Nat) : List Byte := [byte n.val, byte priority]

/-- The full form of OPEN. -/
def openBody (r : OpenReq) : List Byte :=
  byte r.slot.val :: byte r.cfg.priority :: byte r.cfg.guardRung :: byte r.cfg.startRung :: beBytes 3 r.cfg.resume ++
    beBytes 3 r.cfg.start ++ beBytes 3 r.cfg.target ++ beBytes 3 r.cfg.refill ++ beBytes 3 r.cfg.high

/-- TUNE. -/
def tuneBody (r : TuneReq) : List Byte :=
  byte r.slot.val :: beBytes 2 r.envelopePeriod ++ boolByte r.autoProbe :: byte r.probeFactor :: byte r.deadlineFactor ::
    beBytes 2 r.startTimeout ++ beBytes 2 r.stallTimeout ++ beBytes 2 r.playbackRate ++ [boolByte r.lift]

/-- LADDER. -/
def ladderBody (r : LadderReq) : List Byte :=
  byte r.slot.val :: byte r.rungs.length :: r.rungs.flatMap fun g => beBytes 3 g.rate ++ beBytes 3 g.init

/-- An entry of an APPEND. -/
def appendEntryBytes (e : AppendEntry) : List Byte :=
  beBytes 4 e.segment ++ beBytes 2 e.duration ++ e.markers :: byte e.sizes.length :: e.sizes.flatMap (beBytes 3)

/-- APPEND. -/
def appendBody (r : AppendReq) : List Byte :=
  byte r.slot.val :: byte r.entries.length :: r.entries.flatMap appendEntryBytes

/-- The code of a PLAYCTL action. -/
def PlayAction.code : PlayAction → Byte
  | .play => 1
  | .pause => 2
  | .seek => 3
  | .stop => 4

/-- PLAYCTL. -/
def playctlBody (n : Slot) (a : PlayAction) : List Byte := [byte n.val, PlayAction.code a]

/-- POSITION. -/
def positionBody (r : PositionReq) : List Byte := byte r.slot.val :: beBytes 4 r.segment ++ beBytes 2 r.offset

/-- TALLY and LANDED. -/
def countBody (r : CountReq) : List Byte := byte r.tag :: beBytes 4 r.bytes

/-- BROKEN, with its reason code. -/
def brokenBody (tag reason : Nat) : List Byte := [byte tag, byte reason]

/-- LINK. -/
def linkBody (r : LinkReq) : List Byte := beBytes 2 r.rtt ++ beBytes 2 r.retry ++ [byte r.airtime]

/-- LIMITS. -/
def limitsBody (r : LimitsReq) : List Byte :=
  beBytes 3 r.startEstimate ++ beBytes 3 r.linkCeiling ++ byte r.slotLimit :: byte (r.protect.getD 4) ::
    beBytes 2 r.retry.busy ++ beBytes 2 r.retry.crowded ++ beBytes 2 r.retry.jammed ++
    byte r.airtime.busy :: byte r.airtime.crowded :: byte r.airtime.jammed :: beBytes 2 r.dwell ++ beBytes 2 r.sagLimit

/-- MASK. -/
def maskBody (r : MaskReq) : List Byte :=
  byte r.device.toNat :: beBytes 2 r.stream[0].toNat ++ beBytes 2 r.stream[1].toNat ++ beBytes 2 r.stream[2].toNat ++
    beBytes 2 r.stream[3].toNat

/-! ### What an event leaves unchanged -/

/-- Everything but the streams, the records and next tag, the rotation pointers and the transmit queue is as before. -/
structure State.SameShell (s t : State) : Prop where
  phase : t.phase = s.phase
  now : t.now = s.now
  micros : t.micros = s.micros
  rx : t.rx = s.rx
  sending : t.tx.sending = s.tx.sending
  est : t.est = s.est
  cls : t.cls = s.cls
  sharing : t.sharing = s.sharing
  slotLimit : t.arb.slotLimit = s.arb.slotLimit
  dev : t.dev = s.dev
  choices : t.choices = s.choices
  pending : t.pending = s.pending

/-- Everything but the streams and the transmit queue is as before. -/
structure State.SameBlocks (s t : State) : Prop extends s.SameShell t where
  pool : t.pool = s.pool
  arb : t.arb = s.arb

/-- Every stream but stream n is as before. -/
def State.SameElsewhere (n : Slot) (s t : State) : Prop := ∀ m, m ≠ n → t.stream m = s.stream m

/-- What a stream keeps through an arbitration: its configuration, ladder, buffer queue and accumulator, append origin, LAST
appended and final-known, landed-through, ceiling and step timer, start limit, share and masks. -/
structure Stream.SameContent (a b : Stream) : Prop where
  cfg : b.cfg = a.cfg
  ladder : b.ladder = a.ladder
  buffer : b.buffer = a.buffer
  acc : b.acc = a.acc
  origin : b.origin = a.origin
  lastAppended : b.lastAppended = a.lastAppended
  finalKnown : b.finalKnown = a.finalKnown
  landedThrough : b.landedThrough = a.landedThrough
  ceiling : b.ceiling = a.ceiling
  stepTimer : b.stepTimer = a.stepTimer
  startLimit : b.startLimit = a.startLimit
  share : b.share = a.share
  mask : b.mask = a.mask

/-- The NOTE that the change of flags or masks from `s` to `t` queues (R178): one where the summary has turned from false to
true and none is waiting. -/
def noteFor (s t : State) : List TxFrame :=
  if s.summary = false ∧ t.summary = true ∧ s.noteWaiting = false then [.note] else []

/-- The frame is a reply. -/
def TxFrame.isReply : TxFrame → Bool
  | .reply _ _ => true
  | .hello _ | .fetch _ | .drop _ _ | .gate _ _ _ | .note => false

/-- The number of replies in the transmit queue. -/
def State.replies (s : State) : Nat := (s.tx.queue.filter TxFrame.isReply).length

/-- A flag field with one more flag set (R176). -/
def withFlag {w : Nat} (flags : BitVec w) (bit : Nat) : BitVec w := flags ||| BitVec.twoPow w bit

/-! ### Events of the line -/

/-- A receive fault: a byte with a low stop bit inside a frame, a length byte of 0 or above 250, a check byte that does not
match. -/
def faultyByte (s : State) (b : Byte) (stopLow : Bool) : Prop :=
  (stopLow = true ∧ s.rx.receiver ≠ .hunt) ∨
  (stopLow = false ∧ s.rx.receiver = .length ∧ (b = 0 ∨ 250 < b.toNat)) ∨
  (stopLow = false ∧ ∃ n kind body, s.rx.receiver = .check n (kind :: body) ∧ b ≠ crc8 (byte n :: kind :: body))

/-- The state after a device flag is raised beside a change of the receive side: the flag set, the NOTE it calls for queued. -/
def afterDeviceFlag (s : State) (rx : RxPort) (bit : Nat) : State :=
  let dev := { s.dev with flags := withFlag s.dev.flags bit }
  { s with rx := rx, dev := dev, tx := { s.tx with queue := s.tx.queue ++ noteFor s { s with dev := dev } } }

/-- The state with the head frame under transmission: its bytes, 5 us of line time each, off the queue, and its record, for a
FETCH, announced. -/
def transmitting (s : State) (f : TxFrame) (q : List TxFrame) : State :=
  let announced := fun r : Record => if f.isFetchOf r.tag then { r with announcePending := false } else r
  { s with
    tx := { queue := q, sending := some ⟨f.line s.groupField, 5 * (f.line s.groupField).length⟩ },
    pool := { s.pool with records := s.pool.records.map announced } }

/-! ### The queue after directives -/

/-- The queue after the drop of a record (R56, R58): its FETCH withdrawn where it is still waiting, else a DROP at the tail. -/
def queueAfterDrop (q : List TxFrame) (r : Record) (d : DropReason) : List TxFrame :=
  if r.announcePending then q.filter fun f => !f.isFetchOf r.tag else q ++ [.drop r.tag d]

/-- The live records of a stream in the order in which SEEK, STOP and CLOSE drop them (R19, R21). -/
def State.recordsOf (s : State) (n : Slot) : List Record := (s.normalRecord n).toList ++ (s.probeRecord n).toList

/-- The queue after the drops of SEEK, STOP or CLOSE. -/
def State.queueAfterDrops (s : State) (n : Slot) (d : DropReason) : List TxFrame :=
  (s.recordsOf n).foldl (fun q r => queueAfterDrop q r d) s.tx.queue

/-- A GATE directive placed in a queue (R23). -/
def placeGate (q : List TxFrame) (n : Slot) (opened : Bool) (r : GateReason) : List TxFrame :=
  if q.any (TxFrame.isGateOf n) then replaceGate n (.gate n opened r) q else q ++ [.gate n opened r]

/-! ### Landed entries -/

/-- A window entry that has landed, with its granted rung and its landed bytes. -/
def landedEntry (m : WindowEntry × Nat × Nat) : WindowEntry := { m.1 with state := .landedEarly m.2.1 m.2.2 }

/-- No LANDED_EARLY entry stands at the head of a window, so that the contiguous move stops there (R71). -/
def headNotLanded (w : List WindowEntry) : Prop :=
  ∀ e rung bytes, w.head? = some e → e.state ≠ .landedEarly rung bytes

/-- The stream once the entries `moved` have left the head of its window for the buffer queue and `stay` is what stays (R71,
R72, R39). -/
def Stream.afterMove (st : Stream) (moved : List (WindowEntry × Nat × Nat)) (stay : List WindowEntry) : Stream :=
  { st with
    window := stay,
    buffer := st.buffer ++ moved.map fun m => ⟨m.1.segment, m.2.1, m.1.duration, m.1.duration⟩,
    finalKnown := st.finalKnown || moved.any fun m => m.1.last,
    landedThrough := match moved.getLast? with
      | some m => some m.1.segment
      | none => st.landedThrough }

/-! ### Sound states -/

/-- The fetch pool and the slot limit (R44, R47, R49, R125): at most 8 live records with distinct tags of 1 to 255, at most one
NORMAL or REFETCH and at most one PROBE record for each stream. -/
def State.poolSound (s : State) : Prop :=
  (s.pool.records.map Record.tag).Nodup ∧ (∀ r ∈ s.pool.records, 1 ≤ r.tag ∧ r.tag ≤ 255) ∧
  s.pool.records.length ≤ 8 ∧ 1 ≤ s.pool.nextTag ∧ s.pool.nextTag ≤ 255 ∧ 1 ≤ s.arb.slotLimit ∧ s.arb.slotLimit ≤ 8 ∧
  ∀ n : Slot, (s.pool.records.filter fun r => r.slot == n && r.isNormal).length ≤ 1 ∧
    (s.pool.records.filter fun r => r.slot == n && !r.isNormal).length ≤ 1

/-- The stream controller's part of a stream (R1, R3, R9, R15, R17, R22, R74, R120, R150): the gate is open and the drain timer
runs exactly in PLAYING, the start and stall timers and start overdue belong to their states, a probe is pending in PLAYING
alone, a stream past IDLE holds a ladder, one that is not active holds no share, and an open slot's marks are in order. -/
def Stream.controlled (st : Stream) : Prop :=
  (st.gate = true ↔ st.state = .playing) ∧ (st.drainTimer.isSome = true ↔ st.state = .playing) ∧
  (st.startTimer.isSome = true → st.state = .starting) ∧ (st.stallTimer.isSome = true → st.state = .rebuffering) ∧
  (st.overdue = true → st.state = .starting) ∧ (st.probePending = true → st.state = .playing) ∧
  (st.state ≠ .closed → st.state ≠ .idle → st.ladder ≠ []) ∧ (st.active = false → st.share = 0) ∧
  (st.state ≠ .closed → st.cfg.resume ≤ st.cfg.start ∧ st.cfg.start ≤ st.cfg.target ∧ st.cfg.target ≤ st.cfg.refill ∧
    st.cfg.refill < st.cfg.high)

/-- The segment window and the buffer queue of a stream (R29, R38, R70): segment numbers ascend through buffer and window up to
the last appended, at most 16 window entries, failure counts of at most 2, remaining times of 1 ms to the duration, below it for
the head alone. -/
def Stream.ordered (st : Stream) : Prop :=
  st.window.Pairwise (fun a b => a.segment < b.segment) ∧ st.window.length ≤ 16 ∧
  st.buffer.Pairwise (fun a b => a.segment < b.segment) ∧ (∀ b ∈ st.buffer, ∀ e ∈ st.window, b.segment < e.segment) ∧
  (∀ e ∈ st.window, ∃ last ∈ st.origin, e.segment ≤ last) ∧
  (∀ b ∈ st.buffer, ∃ last ∈ st.origin, b.segment ≤ last) ∧
  (∀ e ∈ st.window, 1 ≤ e.duration ∧ e.failures ≤ 2) ∧ (∀ b ∈ st.buffer, 1 ≤ b.remaining ∧ b.remaining ≤ b.duration) ∧
  (∀ b ∈ st.buffer.tail, b.remaining = b.duration)

/-- Every stream's window and buffer queue are in order. -/
def State.windowsOrdered (s : State) : Prop := ∀ n, (s.stream n).ordered

/-- Every stream is as the stream controller keeps it. -/
def State.controlled (s : State) : Prop := ∀ n, (s.stream n).controlled

/-- The entry is IN_FLIGHT (R29). -/
def WindowEntry.isInFlight (e : WindowEntry) : Bool :=
  match e.state with
  | .inFlight _ => true
  | .waiting | .landedEarly _ _ => false

/-- Live records and IN_FLIGHT window entries agree (R30, R44, R49, R135): each live record names an IN_FLIGHT entry with its
rung, of an active stream; each IN_FLIGHT entry has its record; no two records name one entry; probe live stands for a live
PROBE record; an IDLE stream has nothing buffered and is not final-known, an ENDED one has no window. -/
def State.recordsAgree (s : State) : Prop :=
  (∀ r ∈ s.pool.records, (s.stream r.slot).active = true ∧
    ∃ e ∈ (s.stream r.slot).window, e.segment = r.segment ∧ e.state = .inFlight r.rung) ∧
  (∀ n, ∀ e ∈ (s.stream n).window, e.isInFlight = true → ∃ r ∈ s.pool.records, r.slot = n ∧ r.segment = e.segment) ∧
  s.pool.records.Pairwise (fun a b => a.slot ≠ b.slot ∨ a.segment ≠ b.segment) ∧
  (∀ n, (s.stream n).probeLive = true ↔ ∃ r ∈ s.pool.records, r.slot = n ∧ r.isNormal = false) ∧
  (∀ n, (s.stream n).state = .idle → (s.stream n).buffer = [] ∧ (s.stream n).finalKnown = false) ∧
  (∀ n, (s.stream n).state = .ended → (s.stream n).window = [])

/-- No stream fetches past the fill-hold count of 24 (R69, R81, R82): buffer entries and the window entries that are IN_FLIGHT or
LANDED_EARLY are 24 at most, and at 24 the hold is set. -/
def State.fillsBounded (s : State) : Prop :=
  ∀ n, let count := (s.stream n).buffer.length + ((s.stream n).window.filter fun e => decide (e.state ≠ .waiting)).length
    count ≤ 24 ∧ (count = 24 → (s.stream n).hold = true)

/-- The sound states: what the spec's rules promise of streams, windows and records between events. -/
def State.sound (s : State) : Prop :=
  s.poolSound ∧ s.controlled ∧ s.windowsOrdered ∧ s.recordsAgree ∧ s.fillsBounded

/-- The rung selector's part of the state (R135, R144): with a ladder, the ceiling, the current rung and the rungs of live records
lie within it, and the envelope step timer runs exactly while the ceiling is below the top rung and the zone is not JAMMED;
without one it is stopped. -/
def State.rungsSound (s : State) : Prop :=
  (∀ n, (s.stream n).hasLadder = true →
    (s.stream n).ceiling ≤ (s.stream n).top ∧ (s.stream n).current ≤ (s.stream n).top ∧
    ((s.stream n).stepTimer.isSome = true ↔ (s.stream n).ceiling < (s.stream n).top ∧ s.cls.zone ≠ .jammed)) ∧
  (∀ n, (s.stream n).hasLadder = false → (s.stream n).stepTimer = none) ∧
  ∀ r ∈ s.pool.records, r.rung ≤ (s.stream r.slot).top

/-- Capacity is current (R93, R97, R101, R104, R105, R120, R124): the estimates and the trim lie in their ranges, E is the lower of
F and S, U is what its inputs give, and every share is what the allocation of U gives. -/
def State.capacityCurrent (s : State) : Prop :=
  s.est.fast ≤ 1000000 ∧ s.est.slow ≤ 1000000 ∧ s.est.estimate = min s.est.fast s.est.slow ∧
  s.est.intervalBytes ≤ 4294967295 ∧ 8 ≤ s.est.sagTrim ∧ s.est.sagTrim ≤ 16 ∧ s.sharing.linkCeiling ≤ 1000000 ∧
  s.est.usable = s.usableNow ∧ ∀ n, (s.stream n).share = shareIn (s.allocation s.est.usable) n

/-- The frames that can still join the transmit queue before the next grant or request, beside those in it: a DROP for each
announced live record, a GATE for each stream with none waiting, a NOTE where none waits (R164). -/
def State.queueLoad (s : State) : Nat :=
  s.tx.queue.length + (s.pool.records.filter fun r => !r.announcePending).length +
    (slots.filter fun n => !s.tx.queue.any (TxFrame.isGateOf n)).length + (if s.noteWaiting then 0 else 1)

/-- The transmit queue holds at most one GATE of each slot (R23) and at most one NOTE (R179), and with what can still join it stays
within 45 frames (R164). -/
def State.queueSound (s : State) : Prop :=
  s.poolSound ∧ s.queueLoad ≤ 45 ∧ (∀ n, (s.tx.queue.filter (TxFrame.isGateOf n)).length ≤ 1) ∧
  (s.tx.queue.filter TxFrame.isNote).length ≤ 1

end Sys2Proof.Machine
end

