-- ==== Sys2Proof/Certificates/Slice0/Obligations.lean ====
section
/-! DEFINITION. The statements about the ESV-412, for the provers. -/

open Sys2Proof Sys2Proof.Machine

/-! ### Steps, reset and power -/

/-- A step takes the command at the front of the queue and runs it on the state with the queue's rest. -/
def Obligations.StepRunsTheFrontCommand : Prop :=
  ∀ (c : Instr) (rest : List Instr) (s : State),
    s.pending = c :: rest → step s = exec c { s with pending := rest }

/-- With no command waiting a running part takes up one of the events that happen at this moment: TRANSMIT_START at an idle
transmitter with a frame waiting, the command of the head frame below 32 frames, the expiry of each timer and each record's deadline
whose time has come; which one is free. With none, time passes: to the end of the frame under transmission where that comes within
this millisecond, else to the next millisecond. Before the time base starts nothing happens (the model's choice, log entries 3, 4
and 5). -/
def Obligations.IdlePartTakesUpWhatHappensNow : Prop :=
  ∀ s : State, s.pending = [] →
    (s.phase ≠ .running → step s = .next s) ∧
    (s.phase = .running →
      ((∃ c, s.happensNow c) →
        ∃ c, s.happensNow c ∧ step s = .next { s with choices := s.choices + 1, pending := [c] }) ∧
      ((∀ c, ¬s.happensNow c) →
        (∀ f, s.tx.sending = some f → s.micros + f.left < 1000 →
          step s = .next { s with micros := s.micros + f.left, pending := [.transmitComplete] }) ∧
        (∀ f, s.tx.sending = some f → 1000 ≤ s.micros + f.left →
          step s = .next { s with
            now := s.now + 1, micros := 0,
            tx := { s.tx with sending := some { f with left := f.left - (1000 - s.micros) } } }) ∧
        (s.tx.sending = none → step s = .next { s with now := s.now + 1, micros := 0 })))

/-- The values of power-on and NRST (R2, R24, R45, R69, R94, R107, R120, R125, R136, R159, R174, R181). -/
def Obligations.ResetHoldsThePowerOnValues : Prop :=
  State.reset.phase = .running ∧
  State.reset.rx = { receiver := .hunt, gapTimer := none, buffer := [] } ∧
  State.reset.tx = { queue := [.hello .powerOn], sending := none } ∧
  (∀ n : Slot, (State.reset.stream n).state = .closed ∧ (State.reset.stream n).gate = false ∧
    (State.reset.stream n).startTimer = none ∧ (State.reset.stream n).stallTimer = none ∧
    (State.reset.stream n).overdue = false ∧ (State.reset.stream n).ladder = [] ∧
    (State.reset.stream n).window = [] ∧ (State.reset.stream n).origin = none ∧
    (State.reset.stream n).lastAppended = false ∧ (State.reset.stream n).finalKnown = false ∧
    (State.reset.stream n).dryArmed = false ∧ (State.reset.stream n).prevGrant = none ∧
    (State.reset.stream n).buffer = [] ∧ (State.reset.stream n).occupancy = 0 ∧ (State.reset.stream n).acc = 0 ∧
    (State.reset.stream n).drainTimer = none ∧ (State.reset.stream n).margin = .empty ∧
    (State.reset.stream n).hold = false ∧ (State.reset.stream n).landedThrough = none ∧
    (State.reset.stream n).stepTimer = none ∧ (State.reset.stream n).probePending = false ∧
    (State.reset.stream n).probeLive = false ∧ (State.reset.stream n).rescuePending = false ∧
    (State.reset.stream n).startLimit = false ∧ (State.reset.stream n).share = 0 ∧
    (State.reset.stream n).flags = 0 ∧ (State.reset.stream n).mask = 0x7FF#11) ∧
  State.reset.pool = { records := [], nextTag := 1 } ∧
  State.reset.est =
    { fast := 3000, slow := 3000, estimate := 3000, intervalBytes := 0, intervalBusy := false,
      sampleTimer := State.reset.now + 500, startEstimate := 3000, sagTrim := 16, sagLimit := 150, usable := 2700 } ∧
  State.reset.cls =
    { zone := .clear, raw := .clear, dwellTimer := none, dwell := 3000, retry := ⟨50, 150, 300⟩,
      airtime := ⟨50, 70, 85⟩ } ∧
  State.reset.sharing = { protect := none, linkCeiling := 1000000 } ∧
  State.reset.arb = { slotLimit := 3, rotation := 3, probeRotation := 3 } ∧
  State.reset.dev = { flags := 0, mask := 0xF#4 } ∧
  State.reset.pending = []

/-- NRST low holds the part in reset and cuts a frame under transmission short; its release begins the wait for the time base;
the start of the time base gives every block its power-on values, HELLO the one frame waiting; before it no other command does
anything (R174). That the blocks keep their contents until then, that the queue of commands and the count of free choices stay, and
that the time base starts at 0 is the model's choice (log entries 1 and 4). -/
def Obligations.NrstAndTimeBaseStart : Prop :=
  (∀ (c : Instr) (s : State), s.phase ≠ .running → isPowerRow c = false → exec c s = .next s) ∧
  ∀ s : State,
    exec .nrstAssert s = .next { s with phase := .held, tx := { s.tx with sending := none } } ∧
    (s.phase = .held → exec .nrstRelease s = .next { s with phase := .waiting }) ∧
    (s.phase ≠ .held → exec .nrstRelease s = .next s) ∧
    (s.phase = .waiting →
      exec .timeBaseStart s = .next { State.reset with choices := s.choices, pending := s.pending }) ∧
    (s.phase ≠ .waiting → exec .timeBaseStart s = .next s)

/-! ### The line in -/

/-- The bytes of a frame, sync to check, received one after the other by a hunting receiver put the frame at the tail of the
receive buffer and leave the receiver hunting; nothing else changes (R157, R159, R175). -/
def Obligations.LineBytesDeliverTheirFrame : Prop :=
  ∀ (s : State) (kind : Byte) (body : List Byte),
    s.phase = .running → s.rx.receiver = .hunt → body.length < 250 → s.rx.buffer.length < 4 →
    feedLine (lineBytes kind body) s =
      .next { s with rx := { receiver := .hunt, gapTimer := none, buffer := s.rx.buffer ++ [⟨kind, body⟩] } }

/-- A byte with a good stop bit by the receiver's state, where it is no receive fault (R157). The gap timer is due three ticks
after the byte (log entry 6). -/
def Obligations.ReceiverTakesAByteByItsState : Prop :=
  ∀ (s : State) (b : Byte), s.phase = .running →
    (s.rx.receiver = .hunt → b ≠ 0xC5 → exec (.receiveByte b false) s = .next s) ∧
    (s.rx.receiver = .hunt → b = 0xC5 →
      exec (.receiveByte b false) s =
        .next { s with rx := { s.rx with receiver := .length, gapTimer := some (s.now + 3) } }) ∧
    (s.rx.receiver = .length → 1 ≤ b.toNat → b.toNat ≤ 250 →
      exec (.receiveByte b false) s =
        .next { s with rx := { s.rx with receiver := .body b.toNat [], gapTimer := some (s.now + 3) } }) ∧
    (∀ n got, s.rx.receiver = .body n got → got.length + 1 < n →
      exec (.receiveByte b false) s =
        .next { s with rx := { s.rx with receiver := .body n (got ++ [b]), gapTimer := some (s.now + 3) } }) ∧
    (∀ n got, s.rx.receiver = .body n got → got.length + 1 = n →
      exec (.receiveByte b false) s =
        .next { s with rx := { s.rx with receiver := .check n (got ++ [b]), gapTimer := some (s.now + 3) } }) ∧
    (∀ n kind body, s.rx.receiver = .check n (kind :: body) → b = crc8 (byte n :: kind :: body) →
      s.rx.buffer.length < 4 →
      exec (.receiveByte b false) s =
        .next { s with rx := { receiver := .hunt, gapTimer := none, buffer := s.rx.buffer ++ [⟨kind, body⟩] } })

/-- At each receive fault the bytes collected are discarded, FRAME_ERR rises, no reply is made and the receiver hunts; the
buffer and everything else stay. A byte with a low stop bit in HUNT does nothing. A frame completed while four frames wait is
discarded whole with RX_OVERFLOW (R158, R159). A gap expiry given ahead of its time moves the clock to it: the model's choice (log
entry 4). -/
def Obligations.LostFramesRaiseTheirFlag : Prop :=
  ∀ (s : State) (b : Byte) (stopLow : Bool), s.phase = .running →
    (faultyByte s b stopLow →
      exec (.receiveByte b stopLow) s =
        .next (afterDeviceFlag s { receiver := .hunt, gapTimer := none, buffer := s.rx.buffer } 2)) ∧
    (s.rx.receiver = .hunt → exec (.receiveByte b true) s = .next s) ∧
    (∀ e, s.rx.gapTimer = some e →
      exec .gapTimerExpiry s =
        .next (afterDeviceFlag (s.reach e) { receiver := .hunt, gapTimer := none, buffer := s.rx.buffer } 2)) ∧
    (s.rx.gapTimer = none → exec .gapTimerExpiry s = .next s) ∧
    (∀ n kind body, s.rx.receiver = .check n (kind :: body) → 4 ≤ s.rx.buffer.length →
      exec (.receiveByte (crc8 (byte n :: kind :: body)) false) s =
        .next (afterDeviceFlag s { receiver := .hunt, gapTimer := none, buffer := s.rx.buffer } 3))

/-! ### The line out -/

/-- The idle transmitter takes the head of the queue; a FETCH is announced, a NOTE takes the groups that stand now, and a fall
to 20 frames is an arbitration. A transmitter that sends or finds no frame does nothing. When the last bit of a frame has been
sent it is idle, and nothing else changes: the next frame is taken by a TRANSMIT_START of its own, the model's reading (log entry
10). The rules are R55, R133, R156 and R179. -/
def Obligations.TransmitterSendsTheQueueInOrder : Prop :=
  ∀ s : State, s.phase = .running →
    (∀ f q, s.tx.sending = none → s.tx.queue = f :: q → q.length = 20 →
      exec .transmitStart s = .next (transmitting s f q).arbitrate) ∧
    (∀ f q, s.tx.sending = none → s.tx.queue = f :: q → q.length ≠ 20 →
      exec .transmitStart s = .next (transmitting s f q)) ∧
    (s.tx.sending ≠ none ∨ s.tx.queue = [] → exec .transmitStart s = .next s) ∧
    exec .transmitComplete s = .next { s with tx := { s.tx with sending := none } }

/-- The frames that the spec writes out byte for byte, IDENT and RESTART ALL, the bodies of the directives HELLO, DROP, GATE and
NOTE, and the fields of FETCH at their places; the codes of gate and drop reasons, fetch kinds, playback states, margin levels and
zones, and the bits of the flags; the group field of a NOTE: bit 0 the device group, bits 1 to 4 the slots, 1 where the group holds a
set, unmasked flag, the rest 0 (R10, R22, R57, R169, R170, R171, R175, R176, R179). -/
def Obligations.FramesHaveTheirLayouts : Prop :=
  lineBytes 0x01 [] = [0xC5, 0x01, 0x01, 0x12] ∧ lineBytes 0x02 [0x02] = [0xC5, 0x02, 0x02, 0x02, 0xF2] ∧
  (∀ groups, (TxFrame.hello .powerOn).line groups = lineBytes 0x60 [0x04, 0x12, 0x01, 0x01]) ∧
  (∀ groups, (TxFrame.hello .restart).line groups = lineBytes 0x60 [0x04, 0x12, 0x01, 0x02]) ∧
  (∀ groups tag r, (TxFrame.drop tag r).line groups = lineBytes 0x62 [byte tag, r.code]) ∧
  (∀ groups n r, (TxFrame.gate n true r).line groups = lineBytes 0x63 [byte n.val, 1, r.code]) ∧
  (∀ groups n r, (TxFrame.gate n false r).line groups = lineBytes 0x63 [byte n.val, 0, r.code]) ∧
  (∀ groups, TxFrame.note.line groups = lineBytes 0x64 [groups]) ∧
  (∀ groups d, (TxFrame.fetch d).line groups = lineBytes 0x61 d.body) ∧
  (∀ d : FetchDirective, d.tag < 256 → d.segment < 2 ^ 32 → d.rung < 256 → d.rate < 2 ^ 24 → d.init < 2 ^ 24 →
    d.expected < 2 ^ 24 → d.span < 2 ^ 16 →
    d.body.length = 19 ∧ field d.body 0 1 = d.tag ∧ field d.body 1 1 = d.slot.val ∧ field d.body 2 4 = d.segment ∧
    field d.body 6 1 = d.rung ∧ field d.body 7 3 = d.rate ∧ d.body[10]? = some d.kind.code ∧
    field d.body 11 3 = d.init ∧ field d.body 14 3 = d.expected ∧ field d.body 17 2 = d.span) ∧
  [GateReason.start, .resume, .pause, .stall, .ended, .seek, .stop, .close].map GateReason.code = [1, 2, 3, 4, 5, 6, 7, 8] ∧
  [DropReason.deadline, .rescue, .stall, .zone, .seek, .stop, .close].map DropReason.code = [1, 2, 3, 4, 5, 6, 7] ∧
  [FetchKind.normal, .refetch, .probe].map FetchKind.code = [1, 2, 3] ∧
  [PlayState.closed, .idle, .starting, .playing, .rebuffering, .paused, .ended].map PlayState.code = [0, 1, 2, 3, 4, 5, 6] ∧
  [Margin.empty, .near1, .near2, .none].map Margin.code = [0, 1, 2, 3] ∧
  [Zone.clear, .busy, .crowded, .jammed].map Zone.code = [0, 1, 2, 3] ∧
  [DeviceFlag.zone, .sag, .frameErr, .rxOverflow].map DeviceFlag.bit = [0, 1, 2, 3] ∧
  [StreamFlag.startLate, .stall, .stallLong, .windowDry, .margin, .rung, .probeDone, .probeFail, .abandon, .skip,
    .ended].map StreamFlag.bit = [0, 1, 2, 3, 4, 5, 6, 7, 8, 9, 10] ∧
  ∀ s : State,
    (s.groupField.getLsbD 0 = true ↔ ∃ i : Nat, s.dev.flags.getLsbD i = true ∧ s.dev.mask.getLsbD i = false) ∧
    (∀ n : Slot, s.groupField.getLsbD (n.val + 1) = true ↔
      ∃ i : Nat, (s.stream n).flags.getLsbD i = true ∧ (s.stream n).mask.getLsbD i = false) ∧
    ∀ k, 5 ≤ k → s.groupField.getLsbD k = false

/-! ### Requests in general -/

/-- The bodies of the requests, as the host writes them with every field at any value of its range, read back as the fields they
were written from (R3, R6, R10, R21, R26, R34, R59, R89, R108, R148, R166, R168, R172, R177). -/
def Obligations.RequestBodiesReadBackTheirFields : Prop :=
  (∀ n p, p ≤ 3 → parseOpen (shortOpenBody n p) = .ok ⟨n, openConfig p 0 0 2000 4000 12000 20000 30000⟩) ∧
  (∀ n p g st a b c d e, openRangesOk (openConfig p g st a b c d e) = true →
    parseOpen (openBody ⟨n, openConfig p g st a b c d e⟩) = .ok ⟨n, openConfig p g st a b c d e⟩) ∧
  (∀ r : TuneReq, tuneRangesOk r = true → parseTune (tuneBody r) = .ok r) ∧
  (∀ r : LadderReq, 1 ≤ r.rungs.length → r.rungs.length ≤ 10 → rungsOk r.rungs = true →
    parseLadder (ladderBody r) = .ok r) ∧
  (∀ r : AppendReq, appendRanges r.entries = true →
    (∀ e ∈ r.entries, e.segment < 2 ^ 32 ∧ ∀ size ∈ e.sizes, size < 2 ^ 24) → parseAppend (appendBody r) = .ok r) ∧
  (∀ n a, parsePlayctl (playctlBody n a) = .ok ⟨n, a⟩) ∧
  (∀ n : Slot, parseSlot [byte n.val] = .ok n) ∧
  (∀ r : PositionReq, r.segment < 2 ^ 32 → r.offset ≤ 9999 → parsePosition (positionBody r) = .ok r) ∧
  (∀ r : CountReq, r.tag < 256 → r.bytes < 2 ^ 32 → parseCount (countBody r) = .ok r) ∧
  (∀ tag reason, tag < 256 → 1 ≤ reason → reason ≤ 4 → parseBroken (brokenBody tag reason) = .ok tag) ∧
  (∀ r : LinkReq, 1 ≤ r.rtt → r.rtt ≤ 5000 → r.retry ≤ 1000 → r.airtime ≤ 100 → parseLink (linkBody r) = .ok r) ∧
  (∀ r : LimitsReq, limitsRangesOk r = true → (∀ p, r.protect = some p → p ≤ 3) → parseLimits (limitsBody r) = .ok r) ∧
  (∀ r : MaskReq, parseMask (maskBody r) = .ok r) ∧
  parseRestart [1] = .ok .streams ∧ parseRestart [2] = .ok .all ∧
  (∀ n : Slot, parseQuery [1, byte n.val, 0] = .ok (.stream n .summary) ∧
    parseQuery [1, byte n.val, 1] = .ok (.stream n .window) ∧ parseQuery [1, byte n.val, 2] = .ok (.stream n .buffer)) ∧
  parseQuery [2] = .ok .link ∧ (∀ tag, tag < 256 → parseQuery [3, byte tag] = .ok (.record tag))

/-- Every request taken is answered by exactly one reply: a reply of its kind is the last frame of the queue and there is one reply
more than before, but for an accepted RESTART ALL, whose reply and HELLO are the whole queue. Where the status is not OK the request
has changed nothing but the receive buffer it left and the queue that its reply joined. A frame that the decoder cannot take, because
32 frames are queued or another frame stands before it, waits: at the head it stays, else it joins the receive buffer as a completed
frame does, lost with RX_OVERFLOW behind four, and not at all while the receiver is within another frame (R159, R160, R161, R173;
the frame that comes with its command is the model's choice, log entry 2). -/
def Obligations.EveryRequestIsAnsweredAndARefusalChangesNothing : Prop :=
  ∀ (c : Instr) (f : Frame) (s : State), requestFrame c = some f → c.wf = true →
    (s.atDoor f →
      ∃ t status fields, exec c s = .next t ∧
        let reply := TxFrame.reply (replyKind f.kind) (status :: fields)
        (f = ⟨0x02, [2]⟩ → t.tx.queue = [reply, .hello .restart]) ∧
        (f ≠ ⟨0x02, [2]⟩ → t.tx.queue.getLast? = some reply ∧ t.replies = s.replies + 1) ∧
        (status ≠ 0x00 → t = s.popFrame.pushTx reply)) ∧
    (s.phase = .running → ¬s.atDoor f →
      (s.rx.buffer.head? = some f ∨ s.rx.receiver ≠ .hunt → exec c s = .next s) ∧
      (s.rx.buffer.head? ≠ some f → s.rx.receiver = .hunt → s.rx.buffer.length < 4 →
        exec c s = .next { s with rx := { s.rx with buffer := s.rx.buffer ++ [f] } }) ∧
      (s.rx.buffer.head? ≠ some f → s.rx.receiver = .hunt → 4 ≤ s.rx.buffer.length →
        exec c s = .next (afterDeviceFlag s s.rx 3)))

/-- A request of a kind whose frame has a length that does not fit, an APPEND whose entries do not end with the frame and a QUERY of
another length than its view's among them, is answered BAD_LENGTH; one of a fitting length with a field out of its range, or that
breaks a field check which reads no state, is answered BAD_FIELD, whatever the slot's state. Neither changes anything (R3, R6, R10,
R26, R34, R35, R59, R89, R108, R109, R160, R162, R166, R168, R172, R177). -/
def Obligations.MalformedRequestsAreRefused : Prop :=
  ∀ (c : Instr) (f : Frame) (s : State), requestFrame c = some f → requestKinds.contains f.kind = true →
    (∀ kind body, c ≠ .unknownKindRequest kind body) → s.atDoor f →
    (lengthFits f = false → exec c s = .next (s.popFrame.pushTx (.reply (f.kind + 0x80) [0x02]))) ∧
    (lengthFits f = true → outOfRange f = true → exec c s = .next (s.popFrame.pushTx (.reply (f.kind + 0x80) [0x03])))

/-- A request for a CLOSED slot, its fields in range, is answered NO_STREAM and changes nothing; OPEN alone is not (R160). -/
def Obligations.ClosedSlotsAreRefused : Prop :=
  ∀ (s : State) (n : Slot), (s.stream n).state = .closed → (s.stream n).ladder = [] → (s.stream n).origin = none →
    (∀ r : TuneReq, r.slot = n → tuneRangesOk r = true → s.atDoor ⟨0x11, tuneBody r⟩ →
      exec (.tune (tuneBody r)) s = .next (s.popFrame.pushTx (.reply 0x91 [0x04]))) ∧
    (∀ body r, parseLadder body = .ok r → r.slot = n → s.atDoor ⟨0x12, body⟩ →
      exec (.ladder body) s = .next (s.popFrame.pushTx (.reply 0x92 [0x04]))) ∧
    (∀ body r, parseAppend body = .ok r → r.slot = n → s.atDoor ⟨0x13, body⟩ →
      exec (.append body) s = .next (s.popFrame.pushTx (.reply 0x93 [0x04]))) ∧
    (s.atDoor ⟨0x14, playctlBody n .play⟩ →
      exec (.play (playctlBody n .play)) s = .next (s.popFrame.pushTx (.reply 0x94 [0x04]))) ∧
    (s.atDoor ⟨0x14, playctlBody n .pause⟩ →
      exec (.pause (playctlBody n .pause)) s = .next (s.popFrame.pushTx (.reply 0x94 [0x04]))) ∧
    (s.atDoor ⟨0x14, playctlBody n .seek⟩ →
      exec (.seek (playctlBody n .seek)) s = .next (s.popFrame.pushTx (.reply 0x94 [0x04]))) ∧
    (s.atDoor ⟨0x14, playctlBody n .stop⟩ →
      exec (.stop (playctlBody n .stop)) s = .next (s.popFrame.pushTx (.reply 0x94 [0x04]))) ∧
    (s.atDoor ⟨0x15, [byte n.val]⟩ →
      exec (.close [byte n.val]) s = .next (s.popFrame.pushTx (.reply 0x95 [0x04]))) ∧
    (∀ body r, parsePosition body = .ok r → r.slot = n → s.atDoor ⟨0x16, body⟩ →
      exec (.position body) s = .next (s.popFrame.pushTx (.reply 0x96 [0x04]))) ∧
    (s.atDoor ⟨0x17, [byte n.val]⟩ →
      exec (.probe [byte n.val]) s = .next (s.popFrame.pushTx (.reply 0x97 [0x04]))) ∧
    (∀ part : Byte, part.toNat ≤ 2 → s.atDoor ⟨0x06, [1, byte n.val, part]⟩ →
      exec (.queryStream [1, byte n.val, part]) s = .next (s.popFrame.pushTx (.reply 0x86 [0x04])))

/-- A frame of a kind that is no request kind, directive and reply codes among them, is answered UNKNOWN_KIND with the kind
received; the reply's kind is the request's plus 0x80, or 0xFF from 0x80 on (R160, R161, R162). -/
def Obligations.UnknownKindsAreAnswered : Prop :=
  (∀ (s : State) (kind : Byte) (body : List Byte), requestKinds.contains kind = false → s.atDoor ⟨kind, body⟩ →
    exec (.unknownKindRequest kind body) s =
      .next (s.popFrame.pushTx (.reply (if kind.toNat < 0x80 then kind + 0x80 else 0xFF) [0x01, kind]))) ∧
  (∀ kind : Byte, 0x80 ≤ kind.toNat ∨ (0x60 ≤ kind.toNat ∧ kind.toNat ≤ 0x64) → requestKinds.contains kind = false)

/-! ### Requests of the link port and the flag unit -/

/-- IDENT: the codes and the revision with no body, BAD_LENGTH with one; nothing else changes (R165). -/
def Obligations.IdentNamesThePart : Prop :=
  ∀ (s : State) (body : List Byte), s.atDoor ⟨0x01, body⟩ →
    (body = [] →
      exec (.ident body) s = .next (s.popFrame.pushTx (.reply 0x81 [0x00, 0x41, 0xE5, 0x04, 0x12, 0x01]))) ∧
    (body ≠ [] → exec (.ident body) s = .next (s.popFrame.pushTx (.reply 0x81 [0x02])))

/-- RESTART STREAMS: every slot CLOSED with its flags clear and its masks kept, every record freed, the pointers 3, the waiting
FETCH, DROP and GATE directives purged, then the reply; all else, the next tag among it, is kept (R2, R45, R172, R181). The zeros that
a CLOSED slot holds for configuration, ceiling and current rung are the model's choice (log entry 7). -/
def Obligations.RestartStreamsClosesEverySlot : Prop :=
  ∀ s : State, s.atDoor ⟨0x02, [1]⟩ →
    ∃ t, exec (.restartStreams [1]) s = .next t ∧
      t = { s.popFrame with
        pool := { records := [], nextTag := s.pool.nextTag },
        arb := { slotLimit := s.arb.slotLimit, rotation := 3, probeRotation := 3 },
        tx := { s.tx with queue := (s.tx.queue.filter fun f => !f.isStreamDirective) ++ [.reply 0x82 [0x00]] },
        streams := t.streams } ∧
      ∀ n, t.stream n = { Stream.closed with mask := (s.stream n).mask }

/-- RESTART ALL: as RESTART STREAMS, and the LIMITS values, masks, flags, estimator and zone at their defaults, the sample timer
restarted, the reply and HELLO the only frames of the queue; the next tag and the receive side are kept (R94, R173). The zeros of a
CLOSED slot are the model's choice (log entry 7). -/
def Obligations.RestartAllResetsTheLink : Prop :=
  ∀ s : State, s.atDoor ⟨0x02, [2]⟩ →
    ∃ t, exec (.restartAll [2]) s = .next t ∧
      t = { s.popFrame with
        pool := { records := [], nextTag := s.pool.nextTag },
        arb := { slotLimit := 3, rotation := 3, probeRotation := 3 },
        est := { fast := 3000, slow := 3000, estimate := 3000, intervalBytes := 0, intervalBusy := false,
                 sampleTimer := s.now + 500, startEstimate := 3000, sagTrim := 16, sagLimit := 150, usable := 2700 },
        cls := { zone := .clear, raw := .clear, dwellTimer := none, dwell := 3000, retry := ⟨50, 150, 300⟩,
                 airtime := ⟨50, 70, 85⟩ },
        sharing := { protect := none, linkCeiling := 1000000 },
        dev := { flags := 0, mask := 0xF#4 },
        tx := { s.tx with queue := [.reply 0x82 [0x00], .hello .restart] },
        streams := t.streams } ∧
      ∀ n, t.stream n = Stream.closed

/-- LIMITS: the eight values written; a start estimate that differs loaded into F, S and E; U computed once where it or the link
ceiling changed; the shares where U was computed or the protect threshold changed; then an arbitration and the reply (R100,
R103, R105, R109, R124, R166, R167). -/
def Obligations.LimitsWritesItsEightValues : Prop :=
  ∀ (s : State) (r : LimitsReq), limitsRangesOk r = true → (∀ p, r.protect = some p → p ≤ 3) →
    s.atDoor ⟨0x03, limitsBody r⟩ →
    let load : Prop := r.startEstimate ≠ s.est.startEstimate
    let capacity : Prop := load ∨ r.linkCeiling ≠ s.sharing.linkCeiling
    ∃ p : State, exec (.limits (limitsBody r)) s = .next (p.arbitrate.pushTx (.reply 0x83 [0x00])) ∧
      (load → p.est.fast = r.startEstimate ∧ p.est.slow = r.startEstimate ∧ p.est.estimate = r.startEstimate) ∧
      (¬load → p.est.fast = s.est.fast ∧ p.est.slow = s.est.slow ∧ p.est.estimate = s.est.estimate) ∧
      (capacity → p.est.usable =
        min (p.est.estimate * s.cls.zone.utilisation / 100 * s.est.sagTrim / 16) r.linkCeiling) ∧
      (¬capacity → p.est.usable = s.est.usable) ∧
      (capacity ∨ r.protect ≠ s.sharing.protect →
        ∀ m, p.stream m = { s.stream m with share := shareIn (p.allocation p.est.usable) m }) ∧
      (¬capacity ∧ r.protect = s.sharing.protect → ∀ m, p.stream m = s.stream m) ∧
      p = { s.popFrame with
        est := { s.est with
          startEstimate := r.startEstimate, sagLimit := r.sagLimit, fast := p.est.fast, slow := p.est.slow,
          estimate := p.est.estimate, usable := p.est.usable },
        cls := { s.cls with retry := r.retry, airtime := r.airtime, dwell := r.dwell },
        sharing := { protect := r.protect, linkCeiling := r.linkCeiling },
        arb := { s.arb with slotLimit := r.slotLimit }, streams := p.streams }

/-- MASK: every mask written, the NOTE that the new masks call for queued before the reply, no flag changed (R177, R178). -/
def Obligations.MaskWritesEveryMask : Prop :=
  ∀ (s : State) (r : MaskReq), s.atDoor ⟨0x04, maskBody r⟩ →
    ∃ t, exec (.mask (maskBody r)) s = .next t ∧
      (∀ n, t.stream n = { s.stream n with mask := r.stream[n.val] }) ∧
      t = { s.popFrame with
        dev := { s.dev with mask := r.device }, streams := t.streams,
        tx := { s.tx with queue := s.tx.queue ++ noteFor s t ++ [.reply 0x84 [0x00]] } }

/-- FLAGS: every flag reported, the device field first and the slots in order, and every flag cleared; no NOTE is queued and the
masks stay (R180). -/
def Obligations.FlagsReportsAndClears : Prop :=
  ∀ s : State, s.atDoor ⟨0x05, []⟩ →
    ∃ t, exec (.flags []) s = .next t ∧ t.summary = false ∧
      (∀ n, t.stream n = { s.stream n with flags := 0 }) ∧
      t = { s.popFrame with
        dev := { s.dev with flags := 0 }, streams := t.streams,
        tx := { s.tx with queue := s.tx.queue ++ [.reply 0x85 (0x00 :: byte s.dev.flags.toNat ::
          beBytes 2 (s.stream 0).flags.toNat ++ beBytes 2 (s.stream 1).flags.toNat ++
          beBytes 2 (s.stream 2).flags.toNat ++ beBytes 2 (s.stream 3).flags.toNat)] } }

/-- The STREAM view of an open slot in its three parts, every field at its place; the request changes nothing but the queue that
its reply joins (R168, R169). -/
def Obligations.StreamViewReportsTheStream : Prop :=
  ∀ (s : State) (n : Slot), (s.stream n).state ≠ .closed →
    (s.atDoor ⟨0x06, [1, byte n.val, 0]⟩ → ∃ view, view.length = 25 ∧
      exec (.queryStream [1, byte n.val, 0]) s = .next (s.popFrame.pushTx (.reply 0x86 (0x00 :: view))) ∧
      field view 0 1 = n.val ∧ field view 1 1 = 0 ∧ view[2]? = some (s.stream n).state.code ∧
      view[3]? = some (boolByte (s.stream n).gate) ∧ field view 4 3 = (s.stream n).occupancy % 2 ^ 24 ∧
      field view 7 1 = (s.stream n).margin.code ∧ view[8]? = some (boolByte (s.stream n).hold) ∧
      field view 9 1 = (s.stream n).ladder.length % 256 ∧
      field view 10 1 = (if (s.stream n).ladder = [] then 255 else (s.stream n).ceiling % 256) ∧
      field view 11 1 = (if (s.stream n).ladder = [] then 255 else (s.stream n).current % 256) ∧
      field view 12 3 = (s.stream n).share % 2 ^ 24 ∧ view[15]? = some (boolByte (s.stream n).finalKnown) ∧
      view[16]? = some (boolByte (s.stream n).landedThrough.isSome) ∧
      field view 17 4 = (s.stream n).landedThrough.getD 0 % 2 ^ 32 ∧
      field view 21 1 = (s.stream n).window.length % 256 ∧ field view 22 1 = (s.stream n).buffer.length % 256 ∧
      field view 23 1 = ((s.normalRecord n).map Record.tag).getD 0 % 256 ∧
      field view 24 1 = ((s.probeRecord n).map Record.tag).getD 0 % 256) ∧
    (s.atDoor ⟨0x06, [1, byte n.val, 1]⟩ →
      exec (.queryStream [1, byte n.val, 1]) s =
        .next (s.popFrame.pushTx (.reply 0x86 ([0x00, byte n.val, 1, byte (s.stream n).window.length] ++
          (s.stream n).window.flatMap fun e =>
            match e.state with
            | .waiting => beBytes 4 e.segment ++ [0, byte e.failures, 0xFF, 0, 0, 0, 0]
            | .inFlight rung => beBytes 4 e.segment ++ [1, byte e.failures, byte rung, 0, 0, 0, 0]
            | .landedEarly rung bytes =>
              beBytes 4 e.segment ++ [2, byte e.failures, byte rung] ++ beBytes 4 bytes)))) ∧
    (s.atDoor ⟨0x06, [1, byte n.val, 2]⟩ →
      exec (.queryStream [1, byte n.val, 2]) s =
        .next (s.popFrame.pushTx (.reply 0x86 ([0x00, byte n.val, 2, byte (s.stream n).buffer.length] ++
          (s.stream n).buffer.flatMap fun b => beBytes 4 b.segment ++ [byte b.rung] ++ beBytes 2 b.remaining))))

/-- The LINK view: F, S, E and U, zone and raw level, trim, live count and slot limit; nothing else changes (R170). -/
def Obligations.LinkViewReportsTheLink : Prop :=
  ∀ s : State, s.atDoor ⟨0x06, [2]⟩ →
    exec (.queryLink [2]) s = .next (s.popFrame.pushTx (.reply 0x86 (0x00 ::
      beBytes 3 s.est.fast ++ beBytes 3 s.est.slow ++ beBytes 3 s.est.estimate ++ beBytes 3 s.est.usable ++
      [byte s.cls.zone.code, byte s.cls.raw.code, byte s.est.sagTrim, byte s.pool.records.length, byte s.arb.slotLimit])))

/-- The RECORD view of the live record that holds a tag, announced or not, and STALE_TAG for tag 0 or a tag that no live record
holds; the remaining time is at least 1 ms and nothing changes (R67, R168). -/
def Obligations.RecordViewReportsTheRecord : Prop :=
  ∀ (s : State) (tag : Nat), tag < 256 → s.atDoor ⟨0x06, [3, byte tag]⟩ →
    (∀ r, tag ≠ 0 → s.recordOf tag = some r →
      exec (.queryRecord [3, byte tag]) s = .next (s.popFrame.pushTx (.reply 0x86 (0x00 ::
        byte r.tag :: byte r.slot.val :: beBytes 4 r.segment ++ r.kind.code :: byte r.rung :: beBytes 3 (r.init.getD 0) ++
        boolByte r.expected.isSome :: beBytes 3 (r.expected.getD 0) ++ beBytes 4 r.reported ++
        (if r.running then 2 else 1) :: boolByte r.announcePending :: beBytes 2 (max 1 (r.deadline - s.now)))))) ∧
    (tag = 0 ∨ s.recordOf tag = none →
      exec (.queryRecord [3, byte tag]) s = .next (s.popFrame.pushTx (.reply 0x86 [0x07])))

/-! ### Requests that carry a slot -/

/-- OPEN, short or full: a CLOSED slot goes to IDLE with the configuration read and the TUNE defaults, its flags clear and its
masks kept; a slot that is not CLOSED is WRONG_STATE (R3, R4, R24, R181). Ceiling and current rung 0 of a slot without a ladder are
the model's choice (log entry 7). -/
def Obligations.OpenTakesAClosedSlotToIdle : Prop :=
  ∀ (s : State) (body : List Byte) (r : OpenReq), parseOpen body = .ok r → s.atDoor ⟨0x10, body⟩ →
    ((s.stream r.slot).state = .closed →
      exec (.openSlot body) s =
        .next ((s.popFrame.setStream r.slot
          { Stream.closed with
            state := .idle, dryArmed := true, mask := (s.stream r.slot).mask,
            cfg := { r.cfg with
              envelopePeriod := 2000, autoProbe := false, probeFactor := 8, deadlineFactor := 16,
              startTimeout := 10000, stallTimeout := 8000, playbackRate := 256 } }).pushTx (.reply 0x90 [0x00]))) ∧
    ((s.stream r.slot).state ≠ .closed →
      exec (.openSlot body) s = .next (s.popFrame.pushTx (.reply 0x90 [0x05])))

/-- TUNE: the seven stored values, and with lift ceiling the ceiling at the top rung and the step timer stopped for a stream that
holds a ladder; timers, records and everything else are kept (R6, R7, R8, R147). -/
def Obligations.TuneWritesTheTuning : Prop :=
  ∀ (s : State) (r : TuneReq), tuneRangesOk r = true → (s.stream r.slot).state ≠ .closed →
    s.atDoor ⟨0x11, tuneBody r⟩ →
    let st := s.stream r.slot
    exec (.tune (tuneBody r)) s =
      .next ((s.popFrame.setStream r.slot
        { st with
          cfg := { st.cfg with
            envelopePeriod := r.envelopePeriod, autoProbe := r.autoProbe, probeFactor := r.probeFactor,
            deadlineFactor := r.deadlineFactor, startTimeout := r.startTimeout, stallTimeout := r.stallTimeout,
            playbackRate := r.playbackRate },
          ceiling := if r.lift = true ∧ st.ladder ≠ [] then st.ladder.length - 1 else st.ceiling,
          stepTimer := if r.lift = true ∧ st.ladder ≠ [] then none else st.stepTimer }).pushTx (.reply 0x91 [0x00]))

/-- LADDER in IDLE, with no ladder held or an empty window: the ladder stored, guard and start rung clipped to its top rung, the
ceiling the top rung, the current rung the clipped start rung, the step timer stopped, RUNG not raised. Elsewhere WRONG_STATE
(R5, R27, R28, R136). -/
def Obligations.LadderLoadsInIdle : Prop :=
  ∀ (s : State) (body : List Byte) (r : LadderReq), parseLadder body = .ok r → s.atDoor ⟨0x12, body⟩ →
    let st := s.stream r.slot
    let top := r.rungs.length - 1
    (st.state = .idle → st.ladder = [] ∨ st.window = [] →
      exec (.ladder body) s =
        .next ((s.popFrame.setStream r.slot
          { st with
            ladder := r.rungs,
            cfg := { st.cfg with guardRung := min st.cfg.guardRung top, startRung := min st.cfg.startRung top },
            ceiling := top, current := min st.cfg.startRung top, stepTimer := none, probePending := false,
            probeLive := false, rescuePending := false, startLimit := false }).pushTx (.reply 0x92 [0x00]))) ∧
    (st.state ≠ .closed → st.state ≠ .idle ∨ (st.ladder ≠ [] ∧ st.window ≠ []) →
      exec (.ladder body) s = .next (s.popFrame.pushTx (.reply 0x92 [0x05])))

/-- APPEND: the entries join the window WAITING, the origin is set, LAST appended and dry armed follow, the change of the window
is reported, an arbitration runs, and the reply carries the window's count. One that the stream refuses changes nothing: BAD_FIELD
for numbers that do not continue or a size list that does not fit the ladder, then WRONG_STATE in ENDED, after LAST or for a size
list without a ladder, then FULL (R35, R36, R37). -/
def Obligations.AppendAddsItsEntriesOrNone : Prop :=
  ∀ (s : State) (body : List Byte) (r : AppendReq), parseAppend body = .ok r → s.atDoor ⟨0x13, body⟩ →
    let st := s.stream r.slot
    let misfit : Prop := (∃ last e, st.origin = some last ∧ r.entries.head? = some e ∧ e.segment ≠ last + 1) ∨
      (st.ladder ≠ [] ∧ ∃ e ∈ r.entries, e.sizes ≠ [] ∧ e.sizes.length ≠ st.ladder.length)
    let wrong : Prop := st.state = .ended ∨ st.lastAppended = true ∨ (st.ladder = [] ∧ ∃ e ∈ r.entries, e.sizes ≠ [])
    (¬misfit → st.state ≠ .closed → ¬wrong → st.window.length + r.entries.length ≤ 16 →
      ∃ e, r.entries.getLast? = some e ∧
        exec (.append body) s =
          .next (((s.popFrame.setStream r.slot
            { st with
              window := st.window ++ r.entries.map fun e =>
                { segment := e.segment, duration := e.duration, discont := e.markers.getLsbD 0,
                  last := e.markers.getLsbD 1, sizes := if e.sizes = [] then none else some e.sizes,
                  state := .waiting, failures := 0 },
              origin := some e.segment,
              lastAppended := e.markers.getLsbD 1,
              dryArmed := true }).windowChanged r.slot).arbitrate.pushTx
            (.reply 0x93 [0x00, byte (st.window.length + r.entries.length)]))) ∧
    (misfit → exec (.append body) s = .next (s.popFrame.pushTx (.reply 0x93 [0x03]))) ∧
    (¬misfit → st.state ≠ .closed → wrong → exec (.append body) s = .next (s.popFrame.pushTx (.reply 0x93 [0x05]))) ∧
    (¬misfit → st.state ≠ .closed → ¬wrong → 16 < st.window.length + r.entries.length →
      exec (.append body) s = .next (s.popFrame.pushTx (.reply 0x93 [0x06])))

/-- PLAY: from IDLE the start of playback, the start timer running and the shares re-run; from PAUSED to PLAYING with a buffer
entry, else to STARTING and through the readiness test; a repeat changes nothing. Each is an arbitration before the reply with the
state. Without a ladder and in ENDED it is WRONG_STATE (R10, R11, R12, R51, R78, R136). -/
def Obligations.PlayStartsOrResumes : Prop :=
  ∀ (s : State) (n : Slot), s.atDoor ⟨0x14, playctlBody n .play⟩ →
    let st := s.stream n
    let starting := { st with
      state := .starting, startTimer := some (s.now + st.cfg.startTimeout), stallTimer := none, overdue := false }
    (st.state = .idle → st.ladder ≠ [] → st.buffer = [] → st.finalKnown = false →
      exec (.play (playctlBody n .play)) s =
        .next ((s.popFrame.setStream n
          { starting with
            prevGrant := none, acc := 0, landedThrough := none, probePending := false, probeLive := false,
            rescuePending := false, startLimit := true }).reallocate.arbitrate.pushTx (.reply 0x94 [0x00, 2]))) ∧
    (st.state = .paused → st.buffer ≠ [] →
      exec (.play (playctlBody n .play)) s =
        .next (((s.popFrame.setStream n
          { st with state := .playing, gate := true, startTimer := none, stallTimer := none, overdue := false,
                    drainTimer := some (s.now + 10) }).pushGate n true .resume).arbitrate.pushTx
          (.reply 0x94 [0x00, 3]))) ∧
    (st.state = .paused → st.buffer = [] → st.finalKnown = false ∨ st.window ≠ [] →
      exec (.play (playctlBody n .play)) s =
        .next ((s.popFrame.setStream n starting).arbitrate.pushTx (.reply 0x94 [0x00, 2]))) ∧
    (st.state = .paused → st.buffer = [] → st.finalKnown = true → st.window = [] →
      exec (.play (playctlBody n .play)) s =
        .next (((s.popFrame.setStream n
          { st with state := .playing, gate := true, startTimer := none, stallTimer := none, overdue := false,
                    drainTimer := some (s.now + 10) }).pushGate n true .start).arbitrate.pushTx
          (.reply 0x94 [0x00, 3]))) ∧
    (st.state = .starting ∨ st.state = .playing ∨ st.state = .rebuffering →
      exec (.play (playctlBody n .play)) s =
        .next (s.popFrame.arbitrate.pushTx (.reply 0x94 [0x00, (s.popFrame.arbitrate.stream n).state.code]))) ∧
    ((st.state = .idle ∧ st.ladder = []) ∨ st.state = .ended →
      exec (.play (playctlBody n .play)) s = .next (s.popFrame.pushTx (.reply 0x94 [0x05])))

/-- PAUSE: from PLAYING the gate closes with a GATE and drain steps and a pending probe end; from STARTING and REBUFFERING the
timer stops and start overdue becomes no; in PAUSED nothing changes; in IDLE and ENDED it is WRONG_STATE (R10, R13). -/
def Obligations.PauseSuspendsTheStream : Prop :=
  ∀ (s : State) (n : Slot), s.atDoor ⟨0x14, playctlBody n .pause⟩ →
    let st := s.stream n
    let paused := { st with state := .paused, startTimer := none, stallTimer := none, overdue := false }
    (st.state = .playing →
      exec (.pause (playctlBody n .pause)) s =
        .next (((s.popFrame.setStream n
          { paused with gate := false, drainTimer := none, probePending := false }).pushGate n false .pause).pushTx
          (.reply 0x94 [0x00, 5]))) ∧
    (st.state = .starting ∨ st.state = .rebuffering →
      exec (.pause (playctlBody n .pause)) s =
        .next ((s.popFrame.setStream n paused).pushTx (.reply 0x94 [0x00, 5]))) ∧
    (st.state = .paused →
      exec (.pause (playctlBody n .pause)) s = .next (s.popFrame.pushTx (.reply 0x94 [0x00, 5]))) ∧
    (st.state = .idle ∨ st.state = .ended →
      exec (.pause (playctlBody n .pause)) s = .next (s.popFrame.pushTx (.reply 0x94 [0x05])))

/-- SEEK in a sound state: the stream's records dropped, window and buffer emptied, margin and hold re-evaluated with MARGIN, the
gate closed from PLAYING, the state STARTING with a fresh start timer and the start limit; ceiling, current rung and step timer
kept; the shares re-run from ENDED. An arbitration follows where a record was freed, a hold cleared or the stream became active,
then the reply (R19, R42, R51, R92, R136, R154). -/
def Obligations.SeekRestartsFromAnEmptyPosition : Prop :=
  ∀ (s : State) (n : Slot), s.sound → s.atDoor ⟨0x14, playctlBody n .seek⟩ →
    let st := s.stream n
    let queue := s.queueAfterDrops n .seek
    let flags := if st.margin = .empty then st.flags else withFlag st.flags 4
    st.state ≠ .closed → st.state ≠ .idle →
    ∃ p : State,
      (exec (.seek (playctlBody n .seek)) s =
        .next ((if s.recordsOf n ≠ [] ∨ st.hold = true ∨ st.state = .ended then p.arbitrate else p).pushTx
          (.reply 0x94 [0x00, 2]))) ∧
      (∀ r, r ∈ p.pool.records ↔ r ∈ s.pool.records ∧ r.slot ≠ n) ∧ p.pool.nextTag = s.pool.nextTag ∧
      p.tx.queue =
        (if st.state = .playing then
          placeGate (queue ++ noteFor s (s.setStream n { st with flags := flags })) n false .seek
        else queue ++ noteFor s (s.setStream n { st with flags := flags })) ∧
      p.stream n =
        { st with
          state := .starting, gate := false, startTimer := some (s.now + st.cfg.startTimeout), stallTimer := none,
          overdue := false, window := [], origin := none, lastAppended := false, finalKnown := false,
          dryArmed := false, prevGrant := none, buffer := [], acc := 0, drainTimer := none, margin := .empty,
          hold := false, landedThrough := none, probePending := false, probeLive := false, rescuePending := false,
          startLimit := true, flags := flags, share := (p.stream n).share } ∧
      (st.state ≠ .ended → s.SameElsewhere n p ∧ (p.stream n).share = st.share) ∧
      (st.state = .ended → ∀ m, (p.stream m).share = shareIn (p.allocation s.est.usable) m ∧
        (m ≠ n → p.stream m = { s.stream m with share := (p.stream m).share })) ∧
      s.popFrame.SameShell p ∧ p.arb = s.arb

/-- STOP in a sound state: as SEEK to the emptied stream, but the state IDLE with no timer, no start limit and the ladder, the
configuration, the ceiling and the current rung kept; the shares re-run where the stream was active. An arbitration follows where
a record was freed or a hold cleared, then the reply (R20, R42, R92, R136, R154). -/
def Obligations.StopReturnsToIdle : Prop :=
  ∀ (s : State) (n : Slot), s.sound → s.atDoor ⟨0x14, playctlBody n .stop⟩ →
    let st := s.stream n
    let queue := s.queueAfterDrops n .stop
    let flags := if st.margin = .empty then st.flags else withFlag st.flags 4
    st.state ≠ .closed → st.state ≠ .idle →
    ∃ p : State,
      (exec (.stop (playctlBody n .stop)) s =
        .next ((if s.recordsOf n ≠ [] ∨ st.hold = true then p.arbitrate else p).pushTx (.reply 0x94 [0x00, 1]))) ∧
      (∀ r, r ∈ p.pool.records ↔ r ∈ s.pool.records ∧ r.slot ≠ n) ∧ p.pool.nextTag = s.pool.nextTag ∧
      p.tx.queue =
        (if st.state = .playing then
          placeGate (queue ++ noteFor s (s.setStream n { st with flags := flags })) n false .stop
        else queue ++ noteFor s (s.setStream n { st with flags := flags })) ∧
      p.stream n =
        { st with
          state := .idle, gate := false, startTimer := none, stallTimer := none, overdue := false, window := [],
          origin := none, lastAppended := false, finalKnown := false, dryArmed := false,
          prevGrant := if (s.recordsOf n).any Record.announcePending then none else st.prevGrant, buffer := [],
          acc := 0, drainTimer := none, margin := .empty, hold := false, landedThrough := none,
          probePending := false, probeLive := false, rescuePending := false, startLimit := false, flags := flags,
          share := 0 } ∧
      (st.state = .ended → s.SameElsewhere n p) ∧
      (st.state ≠ .ended → ∀ m, (p.stream m).share = shareIn (p.allocation s.est.usable) m ∧
        (m ≠ n → p.stream m = { s.stream m with share := (p.stream m).share })) ∧
      s.popFrame.SameShell p ∧ p.arb = s.arb

/-- CLOSE in a sound state: the stream's records dropped, the gate closed from PLAYING, the slot CLOSED with nothing left but its
flags and masks, the shares re-run where the stream was active; an arbitration where a record was freed, then the reply (R21,
R92, R181). The zeros of a CLOSED slot are the model's choice (log entry 7). -/
def Obligations.CloseReleasesTheSlot : Prop :=
  ∀ (s : State) (n : Slot), s.sound → s.atDoor ⟨0x15, [byte n.val]⟩ →
    let st := s.stream n
    let queue := s.queueAfterDrops n .close
    st.state ≠ .closed →
    ∃ p : State,
      (exec (.close [byte n.val]) s =
        .next ((if s.recordsOf n ≠ [] then p.arbitrate else p).pushTx (.reply 0x95 [0x00]))) ∧
      (∀ r, r ∈ p.pool.records ↔ r ∈ s.pool.records ∧ r.slot ≠ n) ∧ p.pool.nextTag = s.pool.nextTag ∧
      p.tx.queue = (if st.state = .playing then placeGate queue n false .close else queue) ∧
      p.stream n = { Stream.closed with flags := st.flags, mask := st.mask } ∧
      (st.active = false → s.SameElsewhere n p) ∧
      (st.active = true → ∀ m, (p.stream m).share = shareIn (p.allocation s.est.usable) m ∧
        (m ≠ n → p.stream m = { s.stream m with share := (p.stream m).share })) ∧
      s.popFrame.SameShell p ∧ p.arb = s.arb

/-- POSITION in PLAYING, PAUSED and REBUFFERING: the entries ahead of the named one leave the queue, its remaining becomes duration
less offset, the accumulator 0, then margin, hold and readiness are re-evaluated; a cleared hold is an arbitration; the reply
carries B. Other states are WRONG_STATE, a segment not in the queue or an offset past its duration OUT_OF_RANGE (R89, R90). -/
def Obligations.PositionResynchronisesTheQueue : Prop :=
  ∀ (s : State) (r : PositionReq), r.segment < 2 ^ 32 → r.offset ≤ 9999 → s.atDoor ⟨0x16, positionBody r⟩ →
    let st := s.stream r.slot
    let allowed : Prop := st.state = .playing ∨ st.state = .paused ∨ st.state = .rebuffering
    (allowed → ∀ ahead b rest, st.buffer = ahead ++ b :: rest → (∀ x ∈ ahead, x.segment ≠ r.segment) →
      b.segment = r.segment → r.offset < b.duration →
      ∃ p, p = (s.popFrame.setStream r.slot
          { st with buffer := { b with remaining := b.duration - r.offset } :: rest, acc := 0 }).windowChanged r.slot ∧
        exec (.position (positionBody r)) s =
          .next ((if st.hold = true ∧ (p.stream r.slot).hold = false then p.arbitrate else p).pushTx
            (.reply 0x96 (0x00 :: beBytes 3 (b.duration - r.offset + (rest.map BufferEntry.remaining).sum))))) ∧
    (allowed → (∀ b ∈ st.buffer, b.segment ≠ r.segment) →
      exec (.position (positionBody r)) s = .next (s.popFrame.pushTx (.reply 0x96 [0x0A]))) ∧
    (allowed → ∀ ahead b rest, st.buffer = ahead ++ b :: rest → (∀ x ∈ ahead, x.segment ≠ r.segment) →
      b.segment = r.segment → b.duration ≤ r.offset →
      exec (.position (positionBody r)) s = .next (s.popFrame.pushTx (.reply 0x96 [0x0A]))) ∧
    (st.state = .idle ∨ st.state = .starting ∨ st.state = .ended →
      exec (.position (positionBody r)) s = .next (s.popFrame.pushTx (.reply 0x96 [0x05])))

/-- PROBE: a probe becomes pending and an arbitration runs before the reply; BUSY where one is pending or live; NOT_NOW outside
PLAYING, in JAMMED and at the top rung (R128, R148). -/
def Obligations.ProbeMakesAProbePending : Prop :=
  ∀ (s : State) (n : Slot), (s.stream n).state ≠ .closed → s.atDoor ⟨0x17, [byte n.val]⟩ →
    let st := s.stream n
    let busy : Prop := st.probePending = true ∨ st.probeLive = true
    let notNow : Prop := st.state ≠ .playing ∨ s.cls.zone = .jammed ∨ st.current = st.ladder.length - 1
    (¬busy → ¬notNow →
      exec (.probe [byte n.val]) s =
        .next ((s.popFrame.setStream n { st with probePending := true }).arbitrate.pushTx (.reply 0x97 [0x00]))) ∧
    (busy → exec (.probe [byte n.val]) s = .next (s.popFrame.pushTx (.reply 0x97 [0x08]))) ∧
    (¬busy → notNow → exec (.probe [byte n.val]) s = .next (s.popFrame.pushTx (.reply 0x97 [0x09])))

/-! ### Reports of a fetch -/

/-- TALLY of a live, announced record: the difference joins the interval byte count, which stays at its greatest value, the bytes
are stored, the record is RUNNING, and nothing else changes (R60, R95). -/
def Obligations.TallyCountsProgress : Prop :=
  ∀ (s : State) (q : CountReq) (r : Record), q.tag < 256 → q.bytes < 2 ^ 32 → q.tag ≠ 0 →
    s.recordOf q.tag = some r → r.announcePending = false → r.reported ≤ q.bytes → s.atDoor ⟨0x18, countBody q⟩ →
    exec (.tally (countBody q)) s =
      .next ({ s.popFrame with
        est := { s.est with intervalBytes := min (s.est.intervalBytes + (q.bytes - r.reported)) 4294967295 },
        pool := { s.pool with
          records := s.pool.records.map fun x : Record =>
            if x.tag = q.tag then { x with reported := q.bytes, running := true } else x } }.pushTx
        (.reply 0x98 [0x00]))

/-- A report for tag 0, for a tag that no live record holds or for a record not yet announced is STALE_TAG; a count below the bytes
reported and a BROKEN reason outside 1 to 4 are BAD_FIELD; none of them changes anything (R59). -/
def Obligations.ReportsThatFindNoRecordChangeNothing : Prop :=
  ∀ (s : State) (tag : Nat), tag < 256 →
    ((tag = 0 ∨ ∀ r, s.recordOf tag = some r → r.announcePending = true) →
      (∀ bytes, bytes < 2 ^ 32 → s.atDoor ⟨0x18, countBody ⟨tag, bytes⟩⟩ →
        exec (.tally (countBody ⟨tag, bytes⟩)) s = .next (s.popFrame.pushTx (.reply 0x98 [0x07]))) ∧
      (∀ bytes, bytes < 2 ^ 32 → s.atDoor ⟨0x19, countBody ⟨tag, bytes⟩⟩ →
        exec (.landed (countBody ⟨tag, bytes⟩)) s = .next (s.popFrame.pushTx (.reply 0x99 [0x07]))) ∧
      (∀ reason, 1 ≤ reason → reason ≤ 4 → s.atDoor ⟨0x1A, brokenBody tag reason⟩ →
        exec (.broken (brokenBody tag reason)) s = .next (s.popFrame.pushTx (.reply 0x9A [0x07])))) ∧
    (∀ r bytes, tag ≠ 0 → s.recordOf tag = some r → r.announcePending = false → bytes < r.reported → bytes < 2 ^ 32 →
      (s.atDoor ⟨0x18, countBody ⟨tag, bytes⟩⟩ →
        exec (.tally (countBody ⟨tag, bytes⟩)) s = .next (s.popFrame.pushTx (.reply 0x98 [0x03]))) ∧
      (s.atDoor ⟨0x19, countBody ⟨tag, bytes⟩⟩ →
        exec (.landed (countBody ⟨tag, bytes⟩)) s = .next (s.popFrame.pushTx (.reply 0x99 [0x03])))) ∧
    (∀ reason, reason < 256 → reason = 0 ∨ 4 < reason → s.atDoor ⟨0x1A, brokenBody tag reason⟩ →
      exec (.broken (brokenBody tag reason)) s = .next (s.popFrame.pushTx (.reply 0x9A [0x03])))

/-- LANDED: the bytes counted, the record freed, the entry landed and moved with the landed entries behind it, the window's change
reported, the start limit ended, a PROBE a success; then an arbitration and the reply (R61, R62, R71, R141). -/
def Obligations.LandedMovesTheSegmentIn : Prop :=
  ∀ (s : State) (q : CountReq) (r : Record), q.tag < 256 → q.bytes < 2 ^ 32 → q.tag ≠ 0 →
    s.recordOf q.tag = some r → r.announcePending = false → r.reported ≤ q.bytes → s.atDoor ⟨0x19, countBody q⟩ →
    let st := s.stream r.slot
    ∀ moved stay, headNotLanded stay →
      (st.window.map fun e => if e.segment = r.segment then { e with state := .landedEarly r.rung q.bytes } else e) =
        moved.map landedEntry ++ stay →
      let p := ({ s.popFrame with
          est := { s.est with intervalBytes := min (s.est.intervalBytes + (q.bytes - r.reported)) 4294967295 },
          pool := { s.pool with records := s.pool.records.filter fun x => x.tag != q.tag } }.setStream r.slot
            (st.afterMove moved stay)).windowChanged r.slot
      let p' := p.setStream r.slot { p.stream r.slot with startLimit := false }
      (r.kind = .probe →
        exec (.landed (countBody q)) s =
          .next ((p'.probeSuccess r.slot r.rung).arbitrate.pushTx (.reply 0x99 [0x00]))) ∧
      (r.kind ≠ .probe → exec (.landed (countBody q)) s = .next (p'.arbitrate.pushTx (.reply 0x99 [0x00])))

/-- BROKEN: the record freed; a failure of the entry for a NORMAL or REFETCH record, a return to WAITING and a probe failure for a
PROBE; then an arbitration and the reply. No DROP is sent and no byte counted (R63). -/
def Obligations.BrokenFailsTheFetch : Prop :=
  ∀ (s : State) (tag reason : Nat) (r : Record), tag < 256 → tag ≠ 0 → 1 ≤ reason → reason ≤ 4 →
    s.recordOf tag = some r → r.announcePending = false → s.atDoor ⟨0x1A, brokenBody tag reason⟩ →
    let st := s.stream r.slot
    let freed := { s.popFrame with pool := { s.pool with records := s.pool.records.filter fun x => x.tag != tag } }
    let waiting := st.window.map fun e => if e.segment = r.segment then { e with state := .waiting } else e
    (r.kind ≠ .probe →
      exec (.broken (brokenBody tag reason)) s =
        .next ((freed.failEntry r.slot r.segment).arbitrate.pushTx (.reply 0x9A [0x00]))) ∧
    (r.kind = .probe →
      exec (.broken (brokenBody tag reason)) s =
        .next ((((freed.setStream r.slot { st with window := waiting }).windowChanged r.slot).probeFailure
          r.slot).arbitrate.pushTx (.reply 0x9A [0x00])))

/-! ### LINK -/

/-- LINK without entry to JAMMED: the trim one step and SAG; the raw level; the zone with ZONE and the CROWDED falls, or the dwell
timer; U, by the zone's utilisation of 90, 80, 65 or 50 percent, and the shares where trim or zone changed; the reply (R101, R102,
R104, R110, R111, R112, R115, R116, R117). -/
def Obligations.LinkMovesTrimAndZone : Prop :=
  ∀ (s : State) (r : LinkReq), 1 ≤ r.rtt → r.rtt ≤ 5000 → r.retry ≤ 1000 → r.airtime ≤ 100 →
    s.atDoor ⟨0x1B, linkBody r⟩ →
    let trim := if s.est.sagLimit < r.rtt then max 8 (s.est.sagTrim - 1)
      else if r.rtt < s.est.sagLimit * 3 / 4 then min 16 (s.est.sagTrim + 1) else s.est.sagTrim
    let raw : Zone :=
      if s.cls.retry.jammed ≤ r.retry ∨ s.cls.airtime.jammed ≤ r.airtime then .jammed
      else if s.cls.retry.crowded ≤ r.retry ∨ s.cls.airtime.crowded ≤ r.airtime then .crowded
      else if s.cls.retry.busy ≤ r.retry ∨ s.cls.airtime.busy ≤ r.airtime then .busy else .clear
    let rise : Prop := s.cls.zone.code < raw.code
    let zone := if rise then raw else s.cls.zone
    let sagged := if (s.est.sagTrim < 16) ↔ (trim < 16) then s.dev.flags else withFlag s.dev.flags 1
    let dev := { s.dev with flags := if rise then withFlag sagged 0 else sagged }
    let changed : Prop := trim ≠ s.est.sagTrim ∨ rise
    [Zone.clear, .busy, .crowded, .jammed].map Zone.utilisation = [90, 80, 65, 50] ∧
    (s.cls.zone = .jammed ∨ raw ≠ .jammed →
    ∃ p : State, exec (.link (linkBody r)) s = .next (p.pushTx (.reply 0x9B [0x00])) ∧
      p = { s.popFrame with
        est := { s.est with
          sagTrim := trim,
          usable := if changed then min (s.est.estimate * zone.utilisation / 100 * trim / 16) s.sharing.linkCeiling
            else s.est.usable },
        cls := { s.cls with
          raw := raw, zone := zone,
          dwellTimer := if raw.code < s.cls.zone.code then some (s.cls.dwellTimer.getD (s.now + s.cls.dwell)) else none },
        dev := dev, tx := { s.tx with queue := s.tx.queue ++ noteFor s { s with dev := dev } }, streams := p.streams } ∧
      (¬changed → ∀ n, p.stream n = s.stream n) ∧
      (changed → ∀ n, p.stream n =
        let st := s.stream n
        if rise ∧ raw = .crowded ∧ st.ladder ≠ [] then
          { st with
            ceiling := st.ceiling - 1, probePending := false,
            stepTimer := if st.ceiling - 1 < st.ladder.length - 1 then some (s.now + st.cfg.envelopePeriod) else none,
            share := shareIn (p.allocation p.est.usable) n }
        else { st with share := shareIn (p.allocation p.est.usable) n }))

/-- LINK into JAMMED: trim, SAG and ZONE; every ceiling clamped to its floor after the CROWDED fall where the rise passes it;
pending probes cancelled; every PROBE record dropped with reason ZONE as a probe failure; step timers stopped; U and the shares;
one arbitration where a record was freed; the reply. A stream without a PROBE record keeps all else; the queue loses the FETCHes
withdrawn, gains the DROPs and the NOTE called for, and keeps its other frames but for a GATE of a stream whose probe was dropped
(R23, R57, R58, R101, R104, R111, R115, R117, R118, R146, R153, R178; the count of free choices is the model's, log entry 5). -/
def Obligations.LinkIntoJammedClampsAndDrops : Prop :=
  ∀ (s : State) (r : LinkReq), s.poolSound → 1 ≤ r.rtt → r.rtt ≤ 5000 → r.retry ≤ 1000 → r.airtime ≤ 100 →
    s.atDoor ⟨0x1B, linkBody r⟩ → s.cls.zone ≠ .jammed →
    s.cls.retry.jammed ≤ r.retry ∨ s.cls.airtime.jammed ≤ r.airtime →
    let trim := if s.est.sagLimit < r.rtt then max 8 (s.est.sagTrim - 1)
      else if r.rtt < s.est.sagLimit * 3 / 4 then min 16 (s.est.sagTrim + 1) else s.est.sagTrim
    let sagged := if (s.est.sagTrim < 16) ↔ (trim < 16) then s.dev.flags else withFlag s.dev.flags 1
    let probes := s.pool.records.filter fun x => x.kind = .probe
    let cls := { s.cls with raw := .jammed, zone := .jammed, dwellTimer := none }
    let dev := { s.dev with flags := withFlag sagged 0 }
    let withdrawn := fun f : TxFrame => probes.any fun x => x.announcePending && f.isFetchOf x.tag
    let gateOfLost := fun f : TxFrame => probes.any fun x => f.isGateOf x.slot
    ∃ p : State,
      (exec (.link (linkBody r)) s = .next ((if probes = [] then p else p.arbitrate).pushTx (.reply 0x9B [0x00]))) ∧
      p = { s.popFrame with
        est := { s.est with
          sagTrim := trim, usable := min (s.est.estimate * 50 / 100 * trim / 16) s.sharing.linkCeiling },
        cls := cls, dev := dev, pool := { s.pool with records := s.pool.records.filter fun x => x.kind ≠ .probe },
        tx := { s.tx with queue := p.tx.queue }, streams := p.streams, choices := s.choices + 1 } ∧
      (probes = [] → p.tx.queue = s.tx.queue ++ noteFor s { s with dev := dev }) ∧
      (∃ added, added.Perm (((probes.filter fun x => !x.announcePending).map fun x => TxFrame.drop x.tag .zone) ++ noteFor s p) ∧
        p.tx.queue.filter (fun f => !gateOfLost f) =
          s.tx.queue.filter (fun f => !withdrawn f && !gateOfLost f) ++ added) ∧
      (∀ n, (p.tx.queue.filter (TxFrame.isGateOf n)).length ≤ (s.tx.queue.filter (TxFrame.isGateOf n)).length + 1) ∧
      ∀ n : Slot,
        let st := s.stream n
        let floor := match s.sharing.protect with
          | some t => if st.cfg.priority ≤ t then st.cfg.guardRung else 0
          | none => 0
        let fallen := if s.cls.zone = .crowded then min st.ceiling floor else min (st.ceiling - 1) floor
        let clamped := { st with
          ceiling := if st.ladder = [] then st.ceiling else fallen, probePending := false, stepTimer := none }
        ((∀ x ∈ probes, x.slot ≠ n) →
          p.stream n = { clamped with share := shareIn (p.allocation p.est.usable) n }) ∧
        ∀ x ∈ probes, x.slot = n →
          p.stream n = { ((({ s with cls := cls }.setStream n clamped).dropToWaiting x .zone).probeFailure n).stream n with
            share := shareIn (p.allocation p.est.usable) n } ∧
          (p.stream n).probeLive = false ∧ (p.stream n).flags.getLsbD 7 = true ∧
          (st.ladder ≠ [] → (p.stream n).ceiling = min fallen st.current) ∧
          (p.stream n).window = st.window.map fun e => if e.segment = x.segment then { e with state := .waiting } else e

/-! ### Timers -/

/-- The stream timers. The start timer raises START_LATE and enters PLAYING with a buffer entry, else start overdue is set; the
stall timer raises STALL_LONG and takes the ceiling to 0; the envelope step raises C in CLEAR and BUSY and considers auto-probe in
CROWDED, its timer restarting below the top rung. A stopped timer does not expire (R15, R17, R144, R145, R149). An expiry given ahead
of its time moves the clock to it: the model's choice (log entry 4). -/
def Obligations.StreamTimersExpire : Prop :=
  ∀ (s : State) (n : Slot), s.phase = .running →
    let st := s.stream n
    (∀ e, st.startTimer = some e → st.buffer = [] →
      exec (.startTimerExpiry n) s =
        .next (((s.reach e).raise n .startLate).modStream n fun st => { st with startTimer := none, overdue := true })) ∧
    (∀ e, st.startTimer = some e → st.buffer ≠ [] →
      exec (.startTimerExpiry n) s =
        .next ((((s.reach e).raise n .startLate).modStream n fun st =>
          { st with
            state := .playing, gate := true, startTimer := none, stallTimer := none, overdue := false,
            drainTimer := some ((s.reach e).now + 10) }).pushGate n true .start)) ∧
    (st.startTimer = none → exec (.startTimerExpiry n) s = .next s) ∧
    (∀ e, st.stallTimer = some e → st.ladder ≠ [] →
      exec (.stallTimerExpiry n) s =
        .next (((s.reach e).raise n .stallLong).modStream n fun st =>
          { st with
            stallTimer := none, ceiling := 0, probePending := false,
            stepTimer := if 0 < st.ladder.length - 1 ∧ s.cls.zone ≠ .jammed then
              some ((s.reach e).now + st.cfg.envelopePeriod) else none })) ∧
    (st.stallTimer = none → exec (.stallTimerExpiry n) s = .next s) ∧
    (∀ e, st.stepTimer = some e → s.cls.zone = .clear ∨ s.cls.zone = .busy →
      exec (.envelopeStepExpiry n) s =
        .next ((s.reach e).setStream n
          { st with
            ceiling := st.ceiling + 1,
            stepTimer := if st.ceiling + 1 < st.ladder.length - 1 then
              some ((s.reach e).now + st.cfg.envelopePeriod) else none })) ∧
    (∀ e, st.stepTimer = some e → s.cls.zone = .crowded →
      let p := { st with
        stepTimer := if st.ceiling < st.ladder.length - 1 then
          some ((s.reach e).now + st.cfg.envelopePeriod) else none }
      if st.cfg.autoProbe = true ∧ st.state = .playing ∧ st.probePending = false ∧ st.probeLive = false ∧
          st.current < st.ladder.length - 1 ∧ st.cfg.target ≤ st.occupancy then
        exec (.envelopeStepExpiry n) s =
          .next ((s.reach e).setStream n { p with probePending := true }).arbitrate
      else exec (.envelopeStepExpiry n) s = .next ((s.reach e).setStream n p)) ∧
    (st.stepTimer = none → exec (.envelopeStepExpiry n) s = .next s)

/-- DRAIN_STEP in a sound state takes its amount off the head of the buffer queue and keeps the remainder. With the queue empty and
drain left over comes the end, or the underrun: REBUFFERING, the fall by two, the PROBE dropped, the rescue. A cleared hold or a
freed record is an arbitration (R16, R18, R75, R76, R77, R83, R84, R85, R86, R137). A step given ahead of its time moves the clock to
it: the model's choice (log entry 4). -/
def Obligations.DrainStepDrainsTheBuffer : Prop :=
  ∀ (s : State) (n : Slot) (e : Nat), s.sound → s.phase = .running → (s.stream n).drainTimer = some e →
    let st := s.stream n
    let gained := st.acc + st.cfg.playbackRate * 10
    let amount := gained / 256
    let drained := fun buffer : List BufferEntry =>
      ((s.reach e).setStream n
        { st with acc := gained % 256, buffer := buffer, drainTimer := some (e + 10) }).reevaluate n
    let settled := fun t : State =>
      if t.pool.records.length < s.pool.records.length ∨ (st.hold = true ∧ (t.stream n).hold = false) then t.arbitrate
      else t
    (∀ gone b rest, st.buffer = gone ++ b :: rest → (gone.map BufferEntry.remaining).sum ≤ amount →
      amount < (gone.map BufferEntry.remaining).sum + b.remaining →
      exec (.drainStep n) s = .next (settled (drained
        ({ b with remaining := b.remaining - (amount - (gone.map BufferEntry.remaining).sum) } :: rest)))) ∧
    (st.occupancy = amount → exec (.drainStep n) s = .next (settled (drained []))) ∧
    (st.occupancy < amount → st.window = [] → st.finalKnown = true →
      exec (.drainStep n) s =
        .next (settled (((((drained []).modStream n fun st =>
          { st with state := .ended, gate := false, drainTimer := none, probePending := false }).pushGate n false
            .ended).raise n .ended).reallocate))) ∧
    (st.occupancy < amount → st.window ≠ [] ∨ st.finalKnown = false →
      let stalled := ((((drained []).modStream n fun st =>
        { st with
          state := .rebuffering, gate := false, drainTimer := none, probePending := false,
          stallTimer := some ((s.reach e).now + st.cfg.stallTimeout) }).pushGate n false .stall).raise n .stall).fall n
            (st.current - 2)
      let unprobed := match s.probeRecord n with
        | some r => (stalled.dropToWaiting r .stall).probeFailure n
        | none => stalled
      (∀ r m, s.normalRecord n = some r → r.kind = .normal → r.expected = some m →
        r.reported < (m + r.init.getD 0) / 2 → 0 < r.rung →
        exec (.drainStep n) s =
          .next ((unprobed.dropToWaiting r .rescue).modStream n fun st => { st with rescuePending := true }).arbitrate) ∧
      ((∀ r m, s.normalRecord n = some r → r.kind = .normal → r.expected = some m →
        ¬(r.reported < (m + r.init.getD 0) / 2 ∧ 0 < r.rung)) →
        exec (.drainStep n) s = .next (settled unprobed))) ∧
    ∀ m, (s.stream m).drainTimer = none → exec (.drainStep m) s = .next s

/-- The deadline of a record: dropped with reason DEADLINE, then for a NORMAL or REFETCH a failure of its entry, ABANDON and the fall
to the rung below its own, for a PROBE a probe failure; then an arbitration. The expiry of a tag that no live record of the kind
holds is no event (R53, R64, R65, R66). An expiry given ahead of its time moves the clock to it: the model's choice (log entry 4). -/
def Obligations.DeadlinesEndTheirRecords : Prop :=
  ∀ (s : State) (tag : Nat), s.phase = .running →
    (∀ r, s.recordOf tag = some r → r.kind ≠ .probe →
      let t := s.reach r.deadline
      let st := s.stream r.slot
      let dropped := { t with
        pool := { s.pool with records := s.pool.records.filter fun x => x.tag != tag },
        tx := { s.tx with queue := queueAfterDrop s.tx.queue r .deadline } }.setStream r.slot
          { st with prevGrant := if r.announcePending then none else st.prevGrant }
      exec (.deadlineExpiry tag) s =
        .next (((dropped.failEntry r.slot r.segment).raise r.slot .abandon).fall r.slot (r.rung - 1)).arbitrate ∧
      exec (.probeDeadlineExpiry tag) s = .next s) ∧
    (∀ r, s.recordOf tag = some r → r.kind = .probe →
      exec (.probeDeadlineExpiry tag) s =
        .next (((s.reach r.deadline).dropToWaiting r .deadline).probeFailure r.slot).arbitrate ∧
      exec (.deadlineExpiry tag) s = .next s) ∧
    (s.recordOf tag = none → exec (.deadlineExpiry tag) s = .next s ∧ exec (.probeDeadlineExpiry tag) s = .next s)

/-- The timers of the link. The sample timer gives a busy interval's sample to F, S and E, restarts count and busy, and recomputes
U and shares where E changed. The dwell timer lowers the zone by one with ZONE, restarts where the raw level is below, starts the step
timers out of JAMMED, and recomputes U and shares; stopped, it does not expire (R96, R97, R104, R105, R113, R115, R116, R146). An
expiry given ahead of its time moves the clock to it: the model's choice (log entry 4). -/
def Obligations.LinkTimersExpire : Prop :=
  ∀ s : State, s.phase = .running →
    let sample := min (s.est.intervalBytes * 16 / 1000) 1000000
    let fast := if s.est.intervalBusy then (s.est.fast + sample) / 2 else s.est.fast
    let slow := if s.est.intervalBusy then (7 * s.est.slow + sample) / 8 else s.est.slow
    let estimate := if s.est.intervalBusy then min fast slow else s.est.estimate
    (∃ t, exec .sampleTimerExpiry s = .next t ∧
      t = { s.reach s.est.sampleTimer with
        est := { s.est with
          fast := fast, slow := slow, estimate := estimate, intervalBytes := 0,
          intervalBusy := decide (1 ≤ s.pool.records.length), sampleTimer := s.est.sampleTimer + 500,
          usable := if estimate = s.est.estimate then s.est.usable
            else min (estimate * s.cls.zone.utilisation / 100 * s.est.sagTrim / 16) s.sharing.linkCeiling },
        streams := t.streams } ∧
      ∀ n, t.stream n =
        if estimate = s.est.estimate then s.stream n
        else { s.stream n with share := shareIn (t.allocation t.est.usable) n }) ∧
    (s.cls.dwellTimer = none → exec .dwellExpiry s = .next s) ∧
    ∀ e, s.cls.dwellTimer = some e → s.cls.zone ≠ .clear →
      let zone : Zone := match s.cls.zone with
        | .jammed => .crowded
        | .crowded => .busy
        | .busy | .clear => .clear
      let now := max s.now e
      let dev := { s.dev with flags := withFlag s.dev.flags 0 }
      ∃ t, exec .dwellExpiry s = .next t ∧
        t = { s.reach e with
          cls := { s.cls with
            zone := zone, dwellTimer := if s.cls.raw.code < zone.code then some (now + s.cls.dwell) else none },
          est := { s.est with
            usable := min (s.est.estimate * zone.utilisation / 100 * s.est.sagTrim / 16) s.sharing.linkCeiling },
          dev := dev, tx := { s.tx with queue := s.tx.queue ++ noteFor s { s with dev := dev } },
          streams := t.streams } ∧
        ∀ n, t.stream n =
          { s.stream n with
            share := shareIn (t.allocation t.est.usable) n,
            stepTimer := if s.cls.zone = .jammed then
              if (s.stream n).ceiling < (s.stream n).ladder.length - 1 then
                some (now + (s.stream n).cfg.envelopePeriod) else none
              else (s.stream n).stepTimer }

/-! ### Windows, records and rungs -/

/-- A change of a window or buffer queue: the margin level from B and the reference duration, MARGIN where it changes, the fill
hold with its hysteresis, then the readiness test, which opens the gate of a ready stream in STARTING or REBUFFERING (R14, R30, R79,
R82). The test after every window change is the model's reading (log entry 9). -/
def Obligations.WindowChangeReevaluatesTheStream : Prop :=
  ∀ (s : State) (n : Slot),
    let st := s.stream n
    let b := (st.buffer.map BufferEntry.remaining).sum
    let count := st.buffer.length + (st.window.filter fun e => decide (e.state ≠ .waiting)).length
    let ref := match st.buffer.getLast?, st.window.head? with
      | some x, _ => x.duration
      | none, some x => x.duration
      | none, none => 2000
    let margin : Margin := if b = 0 then .empty else if b ≤ ref then .near1 else if b ≤ 2 * ref then .near2 else .none
    let hold := if st.cfg.high ≤ b ∨ 24 ≤ count then true else if b ≤ st.cfg.refill then false else st.hold
    let atEnd : Prop := st.finalKnown = true ∧ st.window = []
    let starts : Prop := st.state = .starting ∧ ((st.buffer ≠ [] ∧ (st.cfg.start ≤ b ∨ st.overdue = true)) ∨ atEnd)
    let resumes : Prop := st.state = .rebuffering ∧ ((st.buffer ≠ [] ∧ (st.cfg.resume ≤ b ∨ hold = true)) ∨ atEnd)
    let t := (s.setStream n { st with margin := margin, hold := hold }).raiseIf (margin != st.margin) n .margin
    let playing := t.modStream n fun st =>
      { st with
        state := .playing, gate := true, startTimer := none, stallTimer := none, overdue := false,
        drainTimer := some (s.now + 10) }
    s.reevaluate n = t ∧
    (starts → s.windowChanged n = playing.pushGate n true .start) ∧
    (resumes → s.windowChanged n = playing.pushGate n true .resume) ∧
    (¬starts → ¬resumes → s.windowChanged n = t)

/-- The claims on a window entry. A drop frees the record, withdraws its FETCH or queues a DROP, and returns the entry to WAITING with
its count kept. A failure raises the count and returns the entry, or on the third skips it: the entry leaves, SKIP rises, a skipped
LAST makes the stream final-known, and landed entries at the head move (R33, R40, R41, R56, R58, R71, R72, R73). -/
def Obligations.DropsFailuresAndSkips : Prop :=
  (∀ (s : State) (r : Record) (d : DropReason),
    let st := s.stream r.slot
    s.dropToWaiting r d =
      ({ s with
        pool := { s.pool with records := s.pool.records.filter fun x => x.tag != r.tag },
        tx := { s.tx with queue := queueAfterDrop s.tx.queue r d } }.setStream r.slot
          { st with
            prevGrant := if r.announcePending then none else st.prevGrant,
            window := st.window.map fun e : WindowEntry =>
              if e.segment = r.segment then { e with state := .waiting } else e
          }).windowChanged r.slot) ∧
  ∀ (s : State) (n : Slot) (a b : List WindowEntry) (e : WindowEntry),
    let st := s.stream n
    st.window = a ++ e :: b → (∀ x ∈ a ++ b, x.segment ≠ e.segment) →
    (e.failures < 2 →
      s.failEntry n e.segment =
        (s.setStream n
          { st with window := a ++ { e with state := .waiting, failures := e.failures + 1 } :: b }).windowChanged n) ∧
    (2 ≤ e.failures → ∀ moved stay, headNotLanded stay → a ++ b = moved.map landedEntry ++ stay →
      s.failEntry n e.segment =
        ((s.raise n .skip).modStream n fun st =>
          Stream.afterMove { st with finalKnown := st.finalKnown || e.last } moved stay).windowChanged n)

/-- A grant makes a record with the next tag that no live record holds, 255 being followed by 1, its init part, expected bytes and
deadline, remembers the rung, puts the entry IN_FLIGHT and queues the FETCH with these fields (R31, R47, R48, R50, R51, R52, R53,
R54). -/
def Obligations.GrantMakesItsRecordAndFetch : Prop :=
  ∀ (s : State) (n : Slot) (e : WindowEntry) (kind : FetchKind) (rung : Nat), s.poolSound →
    let st := s.stream n
    let following := fun t : Nat => if 255 ≤ t then 1 else t + 1
    let live := s.pool.records.map Record.tag
    let size := (st.ladder.getD rung ⟨0, 0⟩).init
    let factor := if kind = .probe then st.cfg.probeFactor else st.cfg.deadlineFactor
    let init := if 0 < size ∧ (e.discont = true ∨ kind ≠ .normal ∨ st.prevGrant ≠ some rung) then some size else none
    let expected := e.sizes.map fun l => l.getD rung 0
    ∃ k, (∀ j, j < k → following^[j] s.pool.nextTag ∈ live) ∧ following^[k] s.pool.nextTag ∉ live ∧
      let tag := following^[k] s.pool.nextTag
      s.makeRecord n e kind rung =
        ({ s with
          pool := {
            records := s.pool.records ++ [({
              tag := tag, slot := n, segment := e.segment, kind := kind, rung := rung, init := init,
              expected := expected, reported := 0, running := false, announcePending := true, grantTime := s.now,
              deadline := s.now + e.duration * factor / 8 } : Record)],
            nextTag := following tag } }.setStream n
          { st with
            prevGrant := some rung,
            window := st.window.map fun x : WindowEntry =>
              if x.segment = e.segment then { x with state := .inFlight rung } else x
          }).pushTx
          (.fetch {
            tag := tag, slot := n, segment := e.segment, rung := rung, rate := (st.ladder.getD rung ⟨0, 0⟩).rate,
            kind := kind, init := init.getD 0, expected := expected.getD 0, span := e.duration * factor / 8 })

/-- The decision of a normal grant: REFETCH at rung 0 with rescue pending, else the highest rung at or below the base of its band,
limited by one step, the zone, the ceiling and the start limit. The rung given becomes the current rung, RUNG rising for a change
(R137, R138, R139, R140). -/
def Obligations.DecisionLimitsTheRung : Prop :=
  ∀ (s : State) (n : Slot),
    let st := s.stream n
    let base := match st.margin with
      | .empty | .near1 => st.share / 2
      | .near2 => st.share * 3 / 4
      | .none => if (st.buffer.map BufferEntry.remaining).sum < st.cfg.target then st.share else st.share * 5 / 4
    let rate := fun r => (st.ladder.getD r ⟨0, 0⟩).rate
    (st.rescuePending = true → s.normalDecision n = (.refetch, 0)) ∧
    (st.rescuePending = false → ∃ best,
      (∀ r, r < st.ladder.length → rate r ≤ base → r ≤ best) ∧
      (best = 0 ∨ (best < st.ladder.length ∧ rate best ≤ base)) ∧
      let stepped := min best (st.current + 1)
      let zoned := if s.cls.zone = .crowded ∨ s.cls.zone = .jammed then min stepped st.current else stepped
      let limited := min zoned st.ceiling
      s.normalDecision n =
        (.normal, if st.state = .starting ∧ st.startLimit = true then min limited st.cfg.startRung else limited)) ∧
    ∀ r, s.takeDecision n r =
      (s.setStream n { st with current := r, rescuePending := false }).raiseIf (st.current != r) n .rung

/-- A ceiling fall lowers C to the named value at most, cancels a pending probe and restarts or stops the step timer, for a stream
that holds a ladder. A probe failure falls to the current rung with PROBE_FAIL; a probe success raises C and the current rung to the
probe's, with RUNG for a change and PROBE_DONE (R142, R152, R153). -/
def Obligations.FallsAndProbeOutcomesMoveTheCeiling : Prop :=
  ∀ (s : State) (n : Slot) (v : Nat),
    let st := s.stream n
    let c := min st.ceiling v
    let timer := fun c : Nat =>
      if c < st.ladder.length - 1 ∧ s.cls.zone ≠ .jammed then some (s.now + st.cfg.envelopePeriod) else none
    (st.ladder = [] → s.fall n v = s) ∧
    (st.ladder ≠ [] → s.fall n v = s.setStream n { st with ceiling := c, probePending := false, stepTimer := timer c }) ∧
    (st.ladder ≠ [] →
      s.probeFailure n =
        (s.setStream n
          { st with
            ceiling := min st.ceiling st.current, probePending := false, probeLive := false,
            stepTimer := timer (min st.ceiling st.current) }).raise n .probeFail) ∧
    s.probeSuccess n v =
      ((s.setStream n
        { st with
          ceiling := max st.ceiling v, current := v, probeLive := false,
          stepTimer := if st.ladder.length - 1 ≤ max st.ceiling v then none else st.stepTimer }).raiseIf
            (st.current != v) n .rung).raise n .probeDone

/-- Raising a flag: a clear flag becomes set, a set one stays, and one NOTE is queued where the summary turns true and none waits. A
GATE takes the place of a waiting GATE of its slot, else the tail, so that no slot has two (R23, R176, R178). -/
def Obligations.FlagsCallTheHostAndGatesReplace : Prop :=
  (∀ (s : State) (n : Slot) (f : StreamFlag),
    let t := s.setStream n { s.stream n with flags := withFlag (s.stream n).flags f.bit }
    s.raise n f = { t with tx := { s.tx with queue := s.tx.queue ++ noteFor s t } }) ∧
  (∀ (s : State) (f : DeviceFlag), s.raiseDevice f = afterDeviceFlag s s.rx f.bit) ∧
  (∀ s : State, s.summary = true ↔
    (∃ i : Nat, s.dev.flags.getLsbD i = true ∧ s.dev.mask.getLsbD i = false) ∨
    ∃ (n : Slot) (i : Nat), (s.stream n).flags.getLsbD i = true ∧ (s.stream n).mask.getLsbD i = false) ∧
  ∀ (s : State) (n : Slot) (opened : Bool) (r : GateReason),
    (∀ a g b, s.tx.queue = a ++ g :: b → g.isGateOf n = true → a.all (fun f => !f.isGateOf n) = true →
      s.pushGate n opened r = { s with tx := { s.tx with queue := a ++ .gate n opened r :: b } }) ∧
    (s.tx.queue.all (fun f => !f.isGateOf n) = true →
      s.pushGate n opened r = { s with tx := { s.tx with queue := s.tx.queue ++ [.gate n opened r] } })

/-! ### Sharing the link -/

/-- The allocation of u. The guard pass takes the protected active streams by priority, then by slot, each given its guard rate or what
is left. In the rounds each uncapped stream gets its portion by weight, or its need where that is less; they end with nothing left,
with no stream uncapped, or after a round that caps none. A share is base and gifts, 0 for a stream that is not active; the shares
never exceed u, and none the greater of guard and top rate (R120, R121, R122, R123). -/
def Obligations.AllocationSharesByWeight : Prop :=
  ∀ (s : State) (u : Nat),
    let cs := s.allocation u
    let active := slots.filter fun n => (s.stream n).active
    let rate := fun (n : Slot) (r : Nat) => ((s.stream n).ladder.getD r ⟨0, 0⟩).rate
    let top := fun n : Slot => rate n ((s.stream n).ladder.length - 1)
    let guardRate := fun n : Slot => rate n (s.stream n).cfg.guardRung
    let covered := fun n : Slot => match s.sharing.protect with
      | some t => decide ((s.stream n).cfg.priority ≤ t)
      | none => false
    let weight := fun n : Slot => match (s.stream n).cfg.priority with
      | 0 => 8
      | 1 => 4
      | 2 => 2
      | _ => 1
    let earlier := fun m n : Slot => (s.stream m).cfg.priority < (s.stream n).cfg.priority ∨
      ((s.stream m).cfg.priority = (s.stream n).cfg.priority ∧ m < n)
    let base := fun n : Slot =>
      if covered n then min (guardRate n) (u - ((active.filter fun m => covered m && decide (earlier m n)).map guardRate).sum)
      else 0
    let uncapped := fun x : Nat × (Slot → Nat) => active.filter fun n => decide (0 < x.2 n)
    let total := fun x : Nat × (Slot → Nat) => ((uncapped x).map weight).sum
    let given := fun (x : Nat × (Slot → Nat)) (n : Slot) => min (x.2 n) (x.1 * weight n / total x)
    let round := fun x : Nat × (Slot → Nat) => (x.1 - ((uncapped x).map (given x)).sum, fun n => x.2 n - given x n)
    let start := (u - (active.map base).sum, fun n => top n - base n)
    let caps := fun x : Nat × (Slot → Nat) => ∃ n ∈ uncapped x, (round x).2 n = 0
    (∀ n, (s.stream n).cfg.priority ≤ 3) →
    (∃ k, (∀ j, j < k → 0 < (round^[j] start).1 ∧ uncapped (round^[j] start) ≠ [] ∧
        (j + 1 < k → caps (round^[j] start))) ∧
      ((round^[k] start).1 = 0 ∨ uncapped (round^[k] start) = [] ∨ ∃ j, j + 1 = k ∧ ¬caps (round^[j] start)) ∧
      ∀ n ∈ active, shareIn cs n = base n + (start.2 n - (round^[k] start).2 n)) ∧
    (slots.map (shareIn cs)).sum ≤ u ∧
    (∀ n, (s.stream n).active = false → shareIn cs n = 0) ∧
    (∀ n, shareIn cs n ≤ max (guardRate n) (top n)) ∧
    (((active.filter covered).map guardRate).sum ≤ u → ∀ n ∈ active, covered n = true → guardRate n ≤ shareIn cs n) ∧
    ((∀ n ∈ active, covered n = false ∧ u * weight n / (active.map weight).sum < top n) →
      ∀ n ∈ active, shareIn cs n = u * weight n / (active.map weight).sum)

/-- Who may be granted, and in what order: normal grants by margin level, priority and rotation, probe grants by rotation alone, to
the stream that meets the conditions of its kind. The grant takes the lowest WAITING entry, for a probe the lowest above the normal
record's, and sets its rotation pointer (R126, R127, R129, R130, R131, R132, R151). That the first WAITING entry of the window is the
lowest is read from R29 and R38 (log entry 11); the re-evaluation after the FETCH, with its readiness test, is the model's choice (log
entries 9 and 19). -/
def Obligations.GrantsGoToTheMostUrgentStream : Prop :=
  ∀ s : State,
    let distance := fun (p n : Slot) => (n - (p + 1)).val
    let key := fun n : Slot => ((s.stream n).margin.code, (s.stream n).cfg.priority, distance s.arb.rotation n)
    let before := fun (a b : Nat × Nat × Nat) =>
      a.1 < b.1 ∨ (a.1 = b.1 ∧ (a.2.1 < b.2.1 ∨ (a.2.1 = b.2.1 ∧ a.2.2 < b.2.2)))
    (∀ n, s.normalEligible n = true ↔ (s.stream n).active = true ∧ (s.stream n).hold = false ∧
      (∀ r ∈ s.pool.records, r.slot = n → r.kind = .probe) ∧ ∃ e ∈ (s.stream n).window, e.state = .waiting) ∧
    (∀ n, s.probeEligible n = true ↔ (s.stream n).probePending = true ∧ (s.stream n).state = .playing ∧
      (s.stream n).hold = false ∧ (∀ r ∈ s.pool.records, r.slot = n → r.kind ≠ .probe) ∧ s.cls.zone ≠ .jammed ∧
      (s.stream n).current + 1 ≤ (s.stream n).ladder.length - 1 ∧
      ∃ r, s.normalRecord n = some r ∧ ∃ e ∈ (s.stream n).window, e.state = .waiting ∧ r.segment < e.segment) ∧
    (∀ n, s.nextNormal = some n ↔
      s.normalEligible n = true ∧ ∀ m, s.normalEligible m = true → m ≠ n → before (key n) (key m)) ∧
    (∀ n, s.nextProbe = some n ↔ s.probeEligible n = true ∧
      ∀ m, s.probeEligible m = true → m ≠ n → distance s.arb.probeRotation n < distance s.arb.probeRotation m) ∧
    (∀ n a e b, (s.stream n).window = a ++ e :: b → (∀ x ∈ a, x.state ≠ .waiting) → e.state = .waiting →
      let kind := (s.normalDecision n).1
      let rung := (s.normalDecision n).2
      let t := (s.takeDecision n rung).makeRecord n e kind rung
      s.grantNormal n = { t with arb := { t.arb with rotation := n } }.windowChanged n) ∧
    ∀ n r a e b, s.normalRecord n = some r → (s.stream n).window = a ++ e :: b →
      (∀ x ∈ a, x.state = .waiting → x.segment ≤ r.segment) → e.state = .waiting → r.segment < e.segment →
      let t := (s.setStream n { s.stream n with probePending := false, probeLive := true }).makeRecord n e .probe
        ((s.stream n).current + 1)
      s.grantProbe n = { t with arb := { t.arb with probeRotation := n } }.windowChanged n

/-- An arbitration, with a slot limit of 8 at most: the dry tests, WINDOW_DRY rising for a dry armed active stream and no other,
then grants, a normal one where a stream is normal-eligible, else a probe, each with a slot free and at most 20 frames queued,
until none can be made; live records stay live, and what an arbitration does not write is kept (R43, R125, R128, R129, R131,
R133). -/
def Obligations.ArbitrationGrantsAllItCan : Prop :=
  ∀ s : State, s.arb.slotLimit ≤ 8 →
    let t := s.arbitrate
    let grant := fun s : State => match s.nextNormal, s.nextProbe with
      | some n, _ => s.grantNormal n
      | none, some n => s.grantProbe n
      | none, none => s
    (∃ k, k ≤ 8 ∧ t = grant^[k] (s.forSlots State.dryTest) ∧ ∀ j, j < k →
      (grant^[j] (s.forSlots State.dryTest)).pool.records.length < s.arb.slotLimit ∧
      (grant^[j] (s.forSlots State.dryTest)).tx.queue.length ≤ 20) ∧
    (s.arb.slotLimit ≤ s.pool.records.length ∨ 20 < s.tx.queue.length → t.pool = s.pool ∧ t.arb = s.arb) ∧
    (t.pool.records.length < t.arb.slotLimit → t.tx.queue.length ≤ 20 →
      ∀ n, t.normalEligible n = false ∧ t.probeEligible n = false) ∧
    s.pool.records <+: t.pool.records ∧ t.pool.records.length ≤ max s.pool.records.length s.arb.slotLimit ∧
    (∀ n,
      let dry : Prop := (s.stream n).hold = false ∧ (∀ r ∈ s.pool.records, r.slot = n → r.kind = .probe) ∧
        (∀ e ∈ (s.stream n).window, e.state ≠ .waiting) ∧ (s.stream n).finalKnown = false
      ((s.stream n).active = true ∧ dry ∧ (s.stream n).dryArmed = true →
        (t.stream n).dryArmed = false ∧ (t.stream n).flags.getLsbD 3 = true) ∧
      (¬((s.stream n).active = true ∧ dry ∧ (s.stream n).dryArmed = true) →
        (t.stream n).dryArmed = (s.stream n).dryArmed ∧
        (t.stream n).flags.getLsbD 3 = (s.stream n).flags.getLsbD 3)) ∧
    s.SameShell t ∧ ∀ n, (s.stream n).SameContent (t.stream n)

/-! ### Invariants -/

/-- The state right after reset meets every invariant stated below. -/
def Obligations.ResetIsSound : Prop :=
  State.reset.sound ∧ State.reset.rungsSound ∧ State.reset.capacityCurrent ∧ State.reset.queueSound

/-- Every step keeps each stream as the stream controller keeps it: the gate is open and the drain timer runs exactly in PLAYING,
the start and stall timers and start overdue belong to their states, a probe is pending in PLAYING alone, an inactive stream has no
share, the marks stay in order (R1, R3, R9, R15, R17, R22, R74, R120, R150). -/
def Obligations.EveryStepKeepsStreamsControlled : Prop :=
  ∀ s t : State, s.controlled → step s = .next t → t.controlled

/-- Every step keeps each window and buffer queue in order: ascending segment numbers up to the last appended, 16 window entries at
most, failure counts of at most 2, remaining times of 1 ms to the duration (R29, R38, R70). -/
def Obligations.EveryStepKeepsWindowsOrdered : Prop :=
  ∀ s t : State, s.windowsOrdered → step s = .next t → t.windowsOrdered

/-- Every step of a sound state is sound: at most 8 live records with distinct tags, one NORMAL or REFETCH and one PROBE for each
stream, each the record of one IN_FLIGHT entry of an active stream, and each IN_FLIGHT entry with its record; buffer entries and
entries IN_FLIGHT or LANDED_EARLY 24 at most, the hold set at 24 (R30, R44, R47, R49, R69, R81, R82). -/
def Obligations.EveryStepKeepsRecordsAndWindowsInStep : Prop :=
  ∀ s t : State, s.sound → step s = .next t → t.sound

/-- Every step of a sound state keeps the rung selector's bounds: ceiling, current rung and the rungs of live records within the
ladder, the envelope step timer running exactly while the ceiling is below the top rung outside JAMMED (R135, R144). -/
def Obligations.EveryStepKeepsRungsOnTheLadder : Prop :=
  ∀ s t : State, s.sound → s.rungsSound → step s = .next t → t.rungsSound

/-- Every step of a state whose streams are controlled keeps capacity current: estimates, trim and link ceiling in range, E the lower of F and S, U what its inputs give and
every share what the allocation of U gives (R93, R97, R99, R101, R104, R105, R120, R124). -/
def Obligations.EveryStepKeepsCapacityCurrent : Prop :=
  ∀ s t : State, s.controlled → s.capacityCurrent → step s = .next t → t.capacityCurrent

/-- Every step keeps the transmit queue, with all that can still join it before the next grant or request, within 45 frames, and so
within the 48 that the spec promises, with one GATE of each slot and one NOTE at most (R23, R163, R164, R179). -/
def Obligations.EveryStepKeepsTheQueueWithinItsFrames : Prop :=
  (∀ s t : State, s.queueSound → step s = .next t → t.queueSound) ∧
  ∀ s : State, s.queueSound → s.tx.queue.length ≤ 48
end

