-- ==== Sys2Proof/Laws/State.lean ====
section
/-! SUPPORT. One lemma per field per update of the named operations of Ops.lean: what each update of the state leaves in each
field, true by computation, and the laws of reading one stream after writing one. -/

-- As one text the package holds many theorems: they are elaborated one after another.
set_option Elab.async false

namespace Sys2Proof.Machine

variable (s : State) (n m : Slot) (st : Stream) (f : Stream → Stream) (rs : List Record) (q : List TxFrame)
  (x : TxFrame) (tag : Nat) (g : Record → Record)

/-! ### Streams -/

theorem State.stream_setStream : (s.setStream n st).stream m = if n = m then st else s.stream m := by
  simp only [State.stream, State.setStream, Vector.getElem_set, Fin.ext_iff]

@[simp] theorem State.stream_setStream_same : (s.setStream n st).stream n = st := by
  simp [State.stream_setStream]

theorem State.stream_modStream : (s.modStream n f).stream m = if n = m then f (s.stream m) else s.stream m := by
  simp only [State.modStream, State.stream_setStream]
  split <;> simp_all

@[simp] theorem State.stream_modStream_same : (s.modStream n f).stream n = f (s.stream n) := by
  simp [State.stream_modStream]

theorem State.stream_modStream_other (h : n ≠ m) : (s.modStream n f).stream m = s.stream m := by
  simp [State.stream_modStream, h]

@[simp] theorem State.setStream_phase : (s.setStream n st).phase = s.phase := rfl
@[simp] theorem State.setStream_now : (s.setStream n st).now = s.now := rfl
@[simp] theorem State.setStream_micros : (s.setStream n st).micros = s.micros := rfl
@[simp] theorem State.setStream_rx : (s.setStream n st).rx = s.rx := rfl
@[simp] theorem State.setStream_tx : (s.setStream n st).tx = s.tx := rfl
@[simp] theorem State.setStream_pool : (s.setStream n st).pool = s.pool := rfl
@[simp] theorem State.setStream_est : (s.setStream n st).est = s.est := rfl
@[simp] theorem State.setStream_cls : (s.setStream n st).cls = s.cls := rfl
@[simp] theorem State.setStream_sharing : (s.setStream n st).sharing = s.sharing := rfl
@[simp] theorem State.setStream_arb : (s.setStream n st).arb = s.arb := rfl
@[simp] theorem State.setStream_dev : (s.setStream n st).dev = s.dev := rfl
@[simp] theorem State.setStream_choices : (s.setStream n st).choices = s.choices := rfl
@[simp] theorem State.setStream_pending : (s.setStream n st).pending = s.pending := rfl

@[simp] theorem State.modStream_phase : (s.modStream n f).phase = s.phase := rfl
@[simp] theorem State.modStream_now : (s.modStream n f).now = s.now := rfl
@[simp] theorem State.modStream_micros : (s.modStream n f).micros = s.micros := rfl
@[simp] theorem State.modStream_rx : (s.modStream n f).rx = s.rx := rfl
@[simp] theorem State.modStream_tx : (s.modStream n f).tx = s.tx := rfl
@[simp] theorem State.modStream_pool : (s.modStream n f).pool = s.pool := rfl
@[simp] theorem State.modStream_est : (s.modStream n f).est = s.est := rfl
@[simp] theorem State.modStream_cls : (s.modStream n f).cls = s.cls := rfl
@[simp] theorem State.modStream_sharing : (s.modStream n f).sharing = s.sharing := rfl
@[simp] theorem State.modStream_arb : (s.modStream n f).arb = s.arb := rfl
@[simp] theorem State.modStream_dev : (s.modStream n f).dev = s.dev := rfl
@[simp] theorem State.modStream_choices : (s.modStream n f).choices = s.choices := rfl
@[simp] theorem State.modStream_pending : (s.modStream n f).pending = s.pending := rfl

/-! ### Records -/

@[simp] theorem State.setRecords_records : (s.setRecords rs).pool.records = rs := rfl
@[simp] theorem State.setRecords_nextTag : (s.setRecords rs).pool.nextTag = s.pool.nextTag := rfl
@[simp] theorem State.setRecords_phase : (s.setRecords rs).phase = s.phase := rfl
@[simp] theorem State.setRecords_now : (s.setRecords rs).now = s.now := rfl
@[simp] theorem State.setRecords_micros : (s.setRecords rs).micros = s.micros := rfl
@[simp] theorem State.setRecords_rx : (s.setRecords rs).rx = s.rx := rfl
@[simp] theorem State.setRecords_tx : (s.setRecords rs).tx = s.tx := rfl
@[simp] theorem State.setRecords_streams : (s.setRecords rs).streams = s.streams := rfl
@[simp] theorem State.setRecords_stream : (s.setRecords rs).stream n = s.stream n := rfl
@[simp] theorem State.setRecords_est : (s.setRecords rs).est = s.est := rfl
@[simp] theorem State.setRecords_cls : (s.setRecords rs).cls = s.cls := rfl
@[simp] theorem State.setRecords_sharing : (s.setRecords rs).sharing = s.sharing := rfl
@[simp] theorem State.setRecords_arb : (s.setRecords rs).arb = s.arb := rfl
@[simp] theorem State.setRecords_dev : (s.setRecords rs).dev = s.dev := rfl
@[simp] theorem State.setRecords_choices : (s.setRecords rs).choices = s.choices := rfl
@[simp] theorem State.setRecords_pending : (s.setRecords rs).pending = s.pending := rfl

@[simp] theorem State.freeRecord_records :
    (s.freeRecord tag).pool.records = s.pool.records.filter fun r => r.tag != tag := rfl
@[simp] theorem State.freeRecord_nextTag : (s.freeRecord tag).pool.nextTag = s.pool.nextTag := rfl
@[simp] theorem State.freeRecord_phase : (s.freeRecord tag).phase = s.phase := rfl
@[simp] theorem State.freeRecord_now : (s.freeRecord tag).now = s.now := rfl
@[simp] theorem State.freeRecord_micros : (s.freeRecord tag).micros = s.micros := rfl
@[simp] theorem State.freeRecord_rx : (s.freeRecord tag).rx = s.rx := rfl
@[simp] theorem State.freeRecord_tx : (s.freeRecord tag).tx = s.tx := rfl
@[simp] theorem State.freeRecord_stream : (s.freeRecord tag).stream n = s.stream n := rfl
@[simp] theorem State.freeRecord_est : (s.freeRecord tag).est = s.est := rfl
@[simp] theorem State.freeRecord_cls : (s.freeRecord tag).cls = s.cls := rfl
@[simp] theorem State.freeRecord_sharing : (s.freeRecord tag).sharing = s.sharing := rfl
@[simp] theorem State.freeRecord_arb : (s.freeRecord tag).arb = s.arb := rfl
@[simp] theorem State.freeRecord_dev : (s.freeRecord tag).dev = s.dev := rfl
@[simp] theorem State.freeRecord_choices : (s.freeRecord tag).choices = s.choices := rfl
@[simp] theorem State.freeRecord_pending : (s.freeRecord tag).pending = s.pending := rfl

@[simp] theorem State.changeRecord_records :
    (s.changeRecord tag g).pool.records = s.pool.records.map fun r => if r.tag = tag then g r else r := rfl
@[simp] theorem State.changeRecord_nextTag : (s.changeRecord tag g).pool.nextTag = s.pool.nextTag := rfl
@[simp] theorem State.changeRecord_phase : (s.changeRecord tag g).phase = s.phase := rfl
@[simp] theorem State.changeRecord_now : (s.changeRecord tag g).now = s.now := rfl
@[simp] theorem State.changeRecord_micros : (s.changeRecord tag g).micros = s.micros := rfl
@[simp] theorem State.changeRecord_rx : (s.changeRecord tag g).rx = s.rx := rfl
@[simp] theorem State.changeRecord_tx : (s.changeRecord tag g).tx = s.tx := rfl
@[simp] theorem State.changeRecord_stream : (s.changeRecord tag g).stream n = s.stream n := rfl
@[simp] theorem State.changeRecord_est : (s.changeRecord tag g).est = s.est := rfl
@[simp] theorem State.changeRecord_cls : (s.changeRecord tag g).cls = s.cls := rfl
@[simp] theorem State.changeRecord_sharing : (s.changeRecord tag g).sharing = s.sharing := rfl
@[simp] theorem State.changeRecord_arb : (s.changeRecord tag g).arb = s.arb := rfl
@[simp] theorem State.changeRecord_dev : (s.changeRecord tag g).dev = s.dev := rfl
@[simp] theorem State.changeRecord_choices : (s.changeRecord tag g).choices = s.choices := rfl
@[simp] theorem State.changeRecord_pending : (s.changeRecord tag g).pending = s.pending := rfl

/-! ### The transmit queue -/

@[simp] theorem State.setQueue_queue : (s.setQueue q).tx.queue = q := rfl
@[simp] theorem State.setQueue_sending : (s.setQueue q).tx.sending = s.tx.sending := rfl
@[simp] theorem State.setQueue_phase : (s.setQueue q).phase = s.phase := rfl
@[simp] theorem State.setQueue_now : (s.setQueue q).now = s.now := rfl
@[simp] theorem State.setQueue_micros : (s.setQueue q).micros = s.micros := rfl
@[simp] theorem State.setQueue_rx : (s.setQueue q).rx = s.rx := rfl
@[simp] theorem State.setQueue_stream : (s.setQueue q).stream n = s.stream n := rfl
@[simp] theorem State.setQueue_pool : (s.setQueue q).pool = s.pool := rfl
@[simp] theorem State.setQueue_est : (s.setQueue q).est = s.est := rfl
@[simp] theorem State.setQueue_cls : (s.setQueue q).cls = s.cls := rfl
@[simp] theorem State.setQueue_sharing : (s.setQueue q).sharing = s.sharing := rfl
@[simp] theorem State.setQueue_arb : (s.setQueue q).arb = s.arb := rfl
@[simp] theorem State.setQueue_dev : (s.setQueue q).dev = s.dev := rfl
@[simp] theorem State.setQueue_choices : (s.setQueue q).choices = s.choices := rfl
@[simp] theorem State.setQueue_pending : (s.setQueue q).pending = s.pending := rfl

@[simp] theorem State.pushTx_queue : (s.pushTx x).tx.queue = s.tx.queue ++ [x] := rfl
@[simp] theorem State.pushTx_sending : (s.pushTx x).tx.sending = s.tx.sending := rfl
@[simp] theorem State.pushTx_phase : (s.pushTx x).phase = s.phase := rfl
@[simp] theorem State.pushTx_now : (s.pushTx x).now = s.now := rfl
@[simp] theorem State.pushTx_micros : (s.pushTx x).micros = s.micros := rfl
@[simp] theorem State.pushTx_rx : (s.pushTx x).rx = s.rx := rfl
@[simp] theorem State.pushTx_stream : (s.pushTx x).stream n = s.stream n := rfl
@[simp] theorem State.pushTx_pool : (s.pushTx x).pool = s.pool := rfl
@[simp] theorem State.pushTx_est : (s.pushTx x).est = s.est := rfl
@[simp] theorem State.pushTx_cls : (s.pushTx x).cls = s.cls := rfl
@[simp] theorem State.pushTx_sharing : (s.pushTx x).sharing = s.sharing := rfl
@[simp] theorem State.pushTx_arb : (s.pushTx x).arb = s.arb := rfl
@[simp] theorem State.pushTx_dev : (s.pushTx x).dev = s.dev := rfl
@[simp] theorem State.pushTx_choices : (s.pushTx x).choices = s.choices := rfl
@[simp] theorem State.pushTx_pending : (s.pushTx x).pending = s.pending := rfl

variable (k : Byte) (e : Status) (fs : List Byte)

@[simp] theorem State.reply_queue :
    (s.reply k e fs).tx.queue = s.tx.queue ++ [.reply (replyKind k) (e.code :: fs)] := rfl
@[simp] theorem State.reply_sending : (s.reply k e fs).tx.sending = s.tx.sending := rfl
@[simp] theorem State.reply_phase : (s.reply k e fs).phase = s.phase := rfl
@[simp] theorem State.reply_now : (s.reply k e fs).now = s.now := rfl
@[simp] theorem State.reply_micros : (s.reply k e fs).micros = s.micros := rfl
@[simp] theorem State.reply_rx : (s.reply k e fs).rx = s.rx := rfl
@[simp] theorem State.reply_stream : (s.reply k e fs).stream n = s.stream n := rfl
@[simp] theorem State.reply_pool : (s.reply k e fs).pool = s.pool := rfl
@[simp] theorem State.reply_est : (s.reply k e fs).est = s.est := rfl
@[simp] theorem State.reply_cls : (s.reply k e fs).cls = s.cls := rfl
@[simp] theorem State.reply_sharing : (s.reply k e fs).sharing = s.sharing := rfl
@[simp] theorem State.reply_arb : (s.reply k e fs).arb = s.arb := rfl
@[simp] theorem State.reply_dev : (s.reply k e fs).dev = s.dev := rfl
@[simp] theorem State.reply_choices : (s.reply k e fs).choices = s.choices := rfl
@[simp] theorem State.reply_pending : (s.reply k e fs).pending = s.pending := rfl

/-! ### Time -/

variable (e : Nat)

theorem State.reach_now : (s.reach e).now = max s.now e := by
  unfold State.reach; (split <;> simp_all); omega

@[simp] theorem State.reach_stream : (s.reach e).stream n = s.stream n := by unfold State.reach; split <;> rfl
@[simp] theorem State.reach_phase : (s.reach e).phase = s.phase := by unfold State.reach; split <;> rfl
@[simp] theorem State.reach_rx : (s.reach e).rx = s.rx := by unfold State.reach; split <;> rfl
@[simp] theorem State.reach_tx : (s.reach e).tx = s.tx := by unfold State.reach; split <;> rfl
@[simp] theorem State.reach_pool : (s.reach e).pool = s.pool := by unfold State.reach; split <;> rfl
@[simp] theorem State.reach_est : (s.reach e).est = s.est := by unfold State.reach; split <;> rfl
@[simp] theorem State.reach_cls : (s.reach e).cls = s.cls := by unfold State.reach; split <;> rfl
@[simp] theorem State.reach_sharing : (s.reach e).sharing = s.sharing := by unfold State.reach; split <;> rfl
@[simp] theorem State.reach_arb : (s.reach e).arb = s.arb := by unfold State.reach; split <;> rfl
@[simp] theorem State.reach_dev : (s.reach e).dev = s.dev := by unfold State.reach; split <;> rfl
@[simp] theorem State.reach_choices : (s.reach e).choices = s.choices := by unfold State.reach; split <;> rfl
@[simp] theorem State.reach_pending : (s.reach e).pending = s.pending := by unfold State.reach; split <;> rfl

/-! ### Acting for each slot -/

/-- What `forSlots` does, when the act for each slot changes that slot's stream alone and leaves what `keep` reads. -/
theorem State.forSlots_keeps {α : Type} (keep : State → α) (act : Slot → State → State)
    (h : ∀ n s, keep (act n s) = keep s) (s : State) : keep (s.forSlots act) = keep s := by
  simp only [State.forSlots, slots, List.foldl_cons, List.foldl_nil, h]

/-- Each slot's stream after `forSlots`, when the act changes that slot's stream by `g` and no other. -/
theorem State.forSlots_stream (act : Slot → State → State) (g : Slot → Stream → Stream)
    (h : ∀ n s m, (act n s).stream m = if n = m then g n (s.stream m) else s.stream m) (s : State) (m : Slot) :
    (s.forSlots act).stream m = g m (s.stream m) := by
  simp only [State.forSlots, slots, List.foldl_cons, List.foldl_nil, h]
  fin_cases m <;> simp

end Sys2Proof.Machine
end

