-- ==== Sys2Proof/Laws/Shell.lean ====
section
/-! SUPPORT. What the shared operations leave unchanged: one lemma per operation says that it touches nothing but streams,
records, rotation pointers and the transmit queue (`SameShell`), or nothing but streams and the queue (`SameBlocks`), and
which other streams it leaves alone (`SameElsewhere`). -/

namespace Sys2Proof.Machine

/-! ### The relations -/

theorem State.SameShell.refl (s : State) : s.SameShell s := by constructor <;> rfl

theorem State.SameShell.trans {s t u : State} (a : s.SameShell t) (b : t.SameShell u) : s.SameShell u where
  phase := b.phase.trans a.phase
  now := b.now.trans a.now
  micros := b.micros.trans a.micros
  rx := b.rx.trans a.rx
  sending := b.sending.trans a.sending
  est := b.est.trans a.est
  cls := b.cls.trans a.cls
  sharing := b.sharing.trans a.sharing
  slotLimit := b.slotLimit.trans a.slotLimit
  dev := b.dev.trans a.dev
  choices := b.choices.trans a.choices
  pending := b.pending.trans a.pending

theorem State.SameBlocks.refl (s : State) : s.SameBlocks s := ⟨State.SameShell.refl s, rfl, rfl⟩

theorem State.SameBlocks.trans {s t u : State} (a : s.SameBlocks t) (b : t.SameBlocks u) : s.SameBlocks u :=
  ⟨a.toSameShell.trans b.toSameShell, b.pool.trans a.pool, b.arb.trans a.arb⟩

theorem State.SameElsewhere.refl (n : Slot) (s : State) : s.SameElsewhere n s := fun _ _ => rfl

theorem State.SameElsewhere.trans {n : Slot} {s t u : State} (a : s.SameElsewhere n t) (b : t.SameElsewhere n u) :
    s.SameElsewhere n u := fun m h => (b m h).trans (a m h)

theorem Stream.SameContent.refl (a : Stream) : a.SameContent a := by constructor <;> rfl

theorem Stream.SameContent.trans {a b c : Stream} (x : a.SameContent b) (y : b.SameContent c) : a.SameContent c where
  cfg := y.cfg.trans x.cfg
  ladder := y.ladder.trans x.ladder
  buffer := y.buffer.trans x.buffer
  acc := y.acc.trans x.acc
  origin := y.origin.trans x.origin
  lastAppended := y.lastAppended.trans x.lastAppended
  finalKnown := y.finalKnown.trans x.finalKnown
  landedThrough := y.landedThrough.trans x.landedThrough
  ceiling := y.ceiling.trans x.ceiling
  stepTimer := y.stepTimer.trans x.stepTimer
  startLimit := y.startLimit.trans x.startLimit
  share := y.share.trans x.share
  mask := y.mask.trans x.mask

/-! ### Streams, the queue and flags -/

variable (s : State) (n : Slot)

theorem State.modStream_blocks (f : Stream → Stream) : s.SameBlocks (s.modStream n f) := by
  constructor <;> first | rfl | (constructor <;> rfl)

theorem State.modStream_elsewhere (f : Stream → Stream) : s.SameElsewhere n (s.modStream n f) := fun _ h =>
  State.stream_modStream_other _ _ _ _ (Ne.symm h)

theorem State.setQueue_blocks (q : List TxFrame) : s.SameBlocks (s.setQueue q) := by
  constructor <;> first | rfl | (constructor <;> rfl)

theorem State.setQueue_elsewhere (q : List TxFrame) : s.SameElsewhere n (s.setQueue q) := fun _ _ => rfl

theorem State.noteIfTurned_eq (b : State) :
    s.noteIfTurned b = if !b.summary && s.summary && !s.noteWaiting then s.pushTx .note else s := rfl

theorem State.noteIfTurned_blocks (b : State) : s.SameBlocks (s.noteIfTurned b) := by
  unfold State.noteIfTurned
  split
  · exact s.setQueue_blocks _
  · exact .refl s

@[simp] theorem State.noteIfTurned_stream (b : State) : (s.noteIfTurned b).stream n = s.stream n := by
  unfold State.noteIfTurned; split <;> rfl

@[simp] theorem State.noteIfTurned_dev (b : State) : (s.noteIfTurned b).dev = s.dev :=
  (s.noteIfTurned_blocks b).dev

/-- What a raise does to each stream: the flag of its own slot is set (R176). -/
theorem State.raise_stream (f : StreamFlag) (m : Slot) :
    (s.raise n f).stream m =
      if n = m then { s.stream m with flags := withFlag (s.stream m).flags f.bit } else s.stream m := by
  unfold State.raise withFlag
  split
  · rename_i h
    split
    · rename_i e; subst e
      have : (s.stream n).flags ||| BitVec.twoPow 11 f.bit = (s.stream n).flags := by
        ext i hi
        simp only [BitVec.getElem_or, BitVec.getElem_twoPow]
        by_cases e : i = f.bit
        · subst e; rw [← BitVec.getLsbD_eq_getElem]; simp [h]
        · simp [e]
      rw [this]
    · rfl
  · rw [State.noteIfTurned_stream, State.stream_modStream]

theorem State.raise_blocks (f : StreamFlag) : s.SameBlocks (s.raise n f) := by
  unfold State.raise
  split
  · exact .refl s
  · exact (s.modStream_blocks n _).trans (State.noteIfTurned_blocks _ _)

theorem State.raise_elsewhere (f : StreamFlag) : s.SameElsewhere n (s.raise n f) := fun m h => by
  rw [State.raise_stream, if_neg (Ne.symm h)]

theorem State.raiseIf_blocks (c : Bool) (f : StreamFlag) : s.SameBlocks (s.raiseIf c n f) := by
  unfold State.raiseIf; split
  · exact s.raise_blocks n f
  · exact .refl s

theorem State.raiseIf_elsewhere (c : Bool) (f : StreamFlag) : s.SameElsewhere n (s.raiseIf c n f) := by
  unfold State.raiseIf; split
  · exact s.raise_elsewhere n f
  · exact .refl n s

theorem State.raiseIf_stream (c : Bool) (f : StreamFlag) (m : Slot) :
    (s.raiseIf c n f).stream m =
      if n = m ∧ c = true then { s.stream m with flags := withFlag (s.stream m).flags f.bit } else s.stream m := by
  unfold State.raiseIf
  cases c <;> simp [State.raise_stream]

theorem State.pushGate_blocks (o : Bool) (r : GateReason) : s.SameBlocks (s.pushGate n o r) := by
  unfold State.pushGate; split
  · exact s.setQueue_blocks _
  · exact s.setQueue_blocks _

@[simp] theorem State.pushGate_stream (o : Bool) (r : GateReason) (m : Slot) :
    (s.pushGate n o r).stream m = s.stream m := by
  unfold State.pushGate; split <;> rfl

/-! ### The playout operations -/

theorem State.reevaluate_blocks : s.SameBlocks (s.reevaluate n) :=
  (s.modStream_blocks n _).trans (State.raiseIf_blocks _ _ _ _)

theorem State.reevaluate_elsewhere : s.SameElsewhere n (s.reevaluate n) :=
  (s.modStream_elsewhere n _).trans (State.raiseIf_elsewhere _ _ _ _)

/-- The stream after a re-evaluation (R79, R82): margin and hold as its buffer and window give them, MARGIN set where the
level differs. -/
theorem State.reevaluate_stream :
    (s.reevaluate n).stream n =
      { s.stream n with
        margin := (s.stream n).marginLevel, hold := (s.stream n).holdEval,
        flags := if (s.stream n).marginLevel = (s.stream n).margin then (s.stream n).flags
          else withFlag (s.stream n).flags StreamFlag.margin.bit } := by
  simp only [State.reevaluate, State.raiseIf_stream, State.stream_modStream_same, bne_iff_ne, ne_eq, true_and]
  split <;> simp_all

theorem State.enterPlaying_blocks (r : GateReason) : s.SameBlocks (s.enterPlaying n r) :=
  (s.modStream_blocks n _).trans (State.pushGate_blocks _ _ _ _)

theorem State.enterPlaying_elsewhere (r : GateReason) : s.SameElsewhere n (s.enterPlaying n r) := fun m h => by
  simp only [State.enterPlaying, State.pushGate_stream, State.stream_modStream, if_neg (Ne.symm h)]

theorem State.enterPlaying_stream (r : GateReason) :
    (s.enterPlaying n r).stream n =
      { s.stream n with state := .playing, gate := true, startTimer := none, stallTimer := none, overdue := false,
                        drainTimer := some (s.now + 10) } := by
  simp only [State.enterPlaying, State.pushGate_stream, State.stream_modStream_same]

theorem State.leavePlaying_blocks (r : GateReason) : s.SameBlocks (s.leavePlaying n r) := by
  unfold State.leavePlaying; split
  · exact (s.modStream_blocks n _).trans (State.pushGate_blocks _ _ _ _)
  · exact .refl s

theorem State.leavePlaying_elsewhere (r : GateReason) : s.SameElsewhere n (s.leavePlaying n r) := fun m h => by
  unfold State.leavePlaying; split
  · simp only [State.pushGate_stream, State.stream_modStream, if_neg (Ne.symm h)]
  · rfl

theorem State.leavePlaying_stream (r : GateReason) :
    (s.leavePlaying n r).stream n =
      if (s.stream n).state = .playing then
        { s.stream n with gate := false, drainTimer := none, probePending := false }
      else s.stream n := by
  unfold State.leavePlaying; split
  · simp only [State.pushGate_stream, State.stream_modStream_same]
  · rfl

theorem State.readinessTest_blocks : s.SameBlocks (s.readinessTest n) := by
  unfold State.readinessTest; split
  · exact s.enterPlaying_blocks n _
  · exact .refl s

theorem State.readinessTest_elsewhere : s.SameElsewhere n (s.readinessTest n) := by
  unfold State.readinessTest; split
  · exact s.enterPlaying_elsewhere n _
  · exact .refl n s

theorem State.windowChanged_blocks : s.SameBlocks (s.windowChanged n) :=
  (s.reevaluate_blocks n).trans (State.readinessTest_blocks _ _)

theorem State.windowChanged_elsewhere : s.SameElsewhere n (s.windowChanged n) :=
  (s.reevaluate_elsewhere n).trans (State.readinessTest_elsewhere _ _)

theorem State.contiguousMove_blocks : s.SameBlocks (s.contiguousMove n) :=
  (s.modStream_blocks n _).trans (State.windowChanged_blocks _ _)

theorem State.contiguousMove_elsewhere : s.SameElsewhere n (s.contiguousMove n) :=
  (s.modStream_elsewhere n _).trans (State.windowChanged_elsewhere _ _)

theorem State.skipEntry_blocks (e : WindowEntry) : s.SameBlocks (s.skipEntry n e) :=
  (((s.modStream_blocks n _).trans (State.raise_blocks _ _ _)).trans (State.modStream_blocks _ _ _)).trans
    (State.contiguousMove_blocks _ _)

theorem State.skipEntry_elsewhere (e : WindowEntry) : s.SameElsewhere n (s.skipEntry n e) :=
  (((s.modStream_elsewhere n _).trans (State.raise_elsewhere _ _ _)).trans (State.modStream_elsewhere _ _ _)).trans
    (State.contiguousMove_elsewhere _ _)

theorem State.failEntry_blocks (seg : Nat) : s.SameBlocks (s.failEntry n seg) := by
  unfold State.failEntry; split
  · exact .refl s
  · split
    · exact (s.modStream_blocks n _).trans (State.windowChanged_blocks _ _)
    · exact s.skipEntry_blocks n _

theorem State.failEntry_elsewhere (seg : Nat) : s.SameElsewhere n (s.failEntry n seg) := by
  unfold State.failEntry; split
  · exact .refl n s
  · split
    · exact (s.modStream_elsewhere n _).trans (State.windowChanged_elsewhere _ _)
    · exact s.skipEntry_elsewhere n _

theorem State.fall_blocks (named : Nat) : s.SameBlocks (s.fall n named) := s.modStream_blocks n _

theorem State.fall_elsewhere (named : Nat) : s.SameElsewhere n (s.fall n named) := s.modStream_elsewhere n _

theorem State.takeDecision_blocks (r : Nat) : s.SameBlocks (s.takeDecision n r) :=
  (s.modStream_blocks n _).trans (State.raiseIf_blocks _ _ _ _)

theorem State.takeDecision_elsewhere (r : Nat) : s.SameElsewhere n (s.takeDecision n r) :=
  (s.modStream_elsewhere n _).trans (State.raiseIf_elsewhere _ _ _ _)

theorem State.probeFailure_blocks : s.SameBlocks (s.probeFailure n) :=
  ((s.fall_blocks n _).trans (State.raise_blocks _ _ _)).trans (State.modStream_blocks _ _ _)

theorem State.probeFailure_elsewhere : s.SameElsewhere n (s.probeFailure n) :=
  ((s.fall_elsewhere n _).trans (State.raise_elsewhere _ _ _)).trans (State.modStream_elsewhere _ _ _)

theorem State.probeSuccess_blocks (r : Nat) : s.SameBlocks (s.probeSuccess n r) := by
  dsimp only [State.probeSuccess]
  refine .trans ?_ (State.modStream_blocks _ n _)
  refine .trans ?_ (State.raise_blocks _ n _)
  exact (s.modStream_blocks n _).trans (State.raiseIf_blocks _ n _ _)

theorem State.probeSuccess_elsewhere (r : Nat) : s.SameElsewhere n (s.probeSuccess n r) := by
  dsimp only [State.probeSuccess]
  refine .trans ?_ (State.modStream_elsewhere _ n _)
  refine .trans ?_ (State.raise_elsewhere _ n _)
  exact (s.modStream_elsewhere n _).trans (State.raiseIf_elsewhere _ n _ _)

/-! ### Records, drops and grants -/

theorem State.setRecords_shell (rs : List Record) : s.SameShell (s.setRecords rs) := by constructor <;> rfl

theorem State.freeRecord_shell (tag : Nat) : s.SameShell (s.freeRecord tag) := s.setRecords_shell _

theorem State.dropRecord_shell (r : Record) (d : DropReason) : s.SameShell (s.dropRecord r d) := by
  unfold State.dropRecord
  refine (s.freeRecord_shell r.tag).trans ?_
  dsimp only
  split
  · exact ((State.setQueue_blocks _ _).trans (State.modStream_blocks _ _ _)).toSameShell
  · exact (State.setQueue_blocks _ _).toSameShell

theorem State.dropRecord_elsewhere (r : Record) (d : DropReason) : s.SameElsewhere r.slot (s.dropRecord r d) := by
  intro m h
  unfold State.dropRecord
  dsimp only
  split
  · simp only [State.withdraw, State.stream_modStream, if_neg (Ne.symm h)]; rfl
  · rfl

theorem State.dropToWaiting_shell (r : Record) (d : DropReason) : s.SameShell (s.dropToWaiting r d) :=
  ((s.dropRecord_shell r d).trans (State.modStream_blocks _ _ _).toSameShell).trans
    (State.windowChanged_blocks _ _).toSameShell

theorem State.failProbe_shell (r : Record) (d : DropReason) : s.SameShell (s.failProbe r d) :=
  (s.dropToWaiting_shell r d).trans (State.probeFailure_blocks _ _).toSameShell

theorem State.makeRecord_shell (e : WindowEntry) (k : FetchKind) (rung : Nat) :
    s.SameShell (s.makeRecord n e k rung) := by constructor <;> rfl

theorem State.grantNormal_shell : s.SameShell (s.grantNormal n) := by
  unfold State.grantNormal
  split
  · exact .refl s
  · refine .trans ?_ (State.windowChanged_blocks _ _).toSameShell
    have h := (s.takeDecision_blocks n (s.normalDecision n).2).toSameShell
    exact ⟨h.phase, h.now, h.micros, h.rx, h.sending, h.est, h.cls, h.sharing, h.slotLimit, h.dev, h.choices, h.pending⟩

theorem State.grantProbe_shell : s.SameShell (s.grantProbe n) := by
  unfold State.grantProbe
  split
  · exact .refl s
  · refine .trans ?_ (State.windowChanged_blocks _ _).toSameShell
    constructor <;> rfl

theorem State.grants_shell (k : Nat) : ∀ s : State, s.SameShell (State.grants k s) := by
  induction k with
  | zero => exact .refl
  | succ k ih =>
    intro s
    unfold State.grants
    split
    · split
      · exact (s.grantNormal_shell _).trans (ih _)
      · exact (s.grantProbe_shell _).trans (ih _)
      · exact .refl s
    · exact .refl s

theorem State.dryTest_blocks (n : Slot) (s : State) : s.SameBlocks (s.dryTest n) := by
  unfold State.dryTest
  split
  · exact (s.raise_blocks n _).trans (State.modStream_blocks _ _ _)
  · exact .refl s

/-- `forSlots` keeps what each act keeps. -/
theorem State.forSlots_rel {R : State → State → Prop} (trans : ∀ {s t u}, R s t → R t u → R s u)
    {act : Slot → State → State} (h : ∀ n s, R s (act n s)) (s : State) : R s (s.forSlots act) := by
  simp only [State.forSlots, slots, List.foldl_cons, List.foldl_nil]
  exact trans (trans (trans (h 0 s) (h 1 _)) (h 2 _)) (h 3 _)

theorem State.forSlots_blocks {act : Slot → State → State} (h : ∀ n s, State.SameBlocks s (act n s)) (s : State) :
    s.SameBlocks (s.forSlots act) :=
  State.forSlots_rel (R := State.SameBlocks) (fun a b => a.trans b) h s

/-- An arbitration touches streams, records, rotation pointers and the transmit queue alone (R129). -/
theorem State.arbitrate_shell : s.SameShell s.arbitrate :=
  (State.forSlots_blocks State.dryTest_blocks s).toSameShell.trans (State.grants_shell _ _)

theorem State.settle_shell (b : State) : s.SameShell (s.settle b) := by
  unfold State.settle; split
  · exact s.arbitrate_shell
  · exact .refl s

theorem State.reallocate_blocks : s.SameBlocks s.reallocate :=
  State.forSlots_blocks (fun n s => s.modStream_blocks n _) s

theorem State.reallocateIf_blocks (c : Bool) : s.SameBlocks (s.reallocateIf c) := by
  unfold State.reallocateIf; split
  · exact s.reallocate_blocks
  · exact .refl s

/-- The shares after an allocation (R124), and nothing else of any stream. -/
theorem State.reallocate_stream (m : Slot) :
    s.reallocate.stream m = { s.stream m with share := shareIn (s.allocation s.est.usable) m } := by
  unfold State.reallocate
  exact State.forSlots_stream _ (fun n st => { st with share := shareIn (s.allocation s.est.usable) n })
    (fun n t m => by rw [State.stream_modStream]) s m

end Sys2Proof.Machine
end

