-- ==== Sys2Proof/Laws/Ops.lean ====
section
/-! SUPPORT. What the shared operations do: the taking of a request, the note of a raise, and what an arbitration may change
of a stream. -/

namespace Sys2Proof.Machine

variable (s : State) (n : Slot)

/-! ### Requests -/

/-- A request at the door is taken: its act runs on the state without its frame (R159, R160). -/
theorem State.takeRequest_of_atDoor {s : State} {f : Frame} (h : s.atDoor f) (act : State → State) :
    s.takeRequest f act = act s.popFrame := by
  obtain ⟨hp, hq, hb⟩ := h
  unfold State.takeRequest State.whenRunning
  rw [if_pos hp]
  rcases hb with hb | ⟨hb, hr, hl⟩
  · simp [State.offer, State.canTake, hb, hq]
  · have h1 : s.offer f = { s with rx := { s.rx with buffer := [f] } } := by
      simp [State.offer, hb, hr, hl, State.frameComplete]
    have h2 : s.popFrame = s := by
      have : s.rx.buffer.tail = s.rx.buffer := by rw [hb]; rfl
      simp [State.popFrame, this]
    simp only [h1, State.canTake, List.head?_cons, true_and, hq, decide_true, if_true, h2]
    simp only [State.popFrame, List.tail_cons, ← hb]

/-- A request row that passes its checks acts on the state without its frame. -/
theorem State.request_of_ok {α : Type} {s : State} {kind : Byte} {body : List Byte} {check : State → Except Status α}
    {act : α → State → State} {a : α} (h : s.atDoor ⟨kind, body⟩) (hc : check s.popFrame = .ok a) :
    s.request kind body check act = act a s.popFrame := by
  rw [State.request, State.takeRequest_of_atDoor h]; simp only [State.answer, hc]

/-- A request row that fails a check is answered with the status and changes nothing else (R160). -/
theorem State.request_of_error {α : Type} {s : State} {kind : Byte} {body : List Byte} {check : State → Except Status α}
    {act : α → State → State} {e : Status} (h : s.atDoor ⟨kind, body⟩) (hc : check s.popFrame = .error e) :
    s.request kind body check act = s.popFrame.reply kind e [] := by
  rw [State.request, State.takeRequest_of_atDoor h]; simp only [State.answer, hc]

@[simp] theorem State.popFrame_stream : s.popFrame.stream n = s.stream n := rfl
@[simp] theorem State.popFrame_phase : s.popFrame.phase = s.phase := rfl
@[simp] theorem State.popFrame_now : s.popFrame.now = s.now := rfl
@[simp] theorem State.popFrame_tx : s.popFrame.tx = s.tx := rfl
@[simp] theorem State.popFrame_pool : s.popFrame.pool = s.pool := rfl
@[simp] theorem State.popFrame_est : s.popFrame.est = s.est := rfl
@[simp] theorem State.popFrame_cls : s.popFrame.cls = s.cls := rfl
@[simp] theorem State.popFrame_sharing : s.popFrame.sharing = s.sharing := rfl
@[simp] theorem State.popFrame_arb : s.popFrame.arb = s.arb := rfl
@[simp] theorem State.popFrame_dev : s.popFrame.dev = s.dev := rfl

/-! ### Flags -/

theorem withFlag_of_set {w : Nat} {flags : BitVec w} {bit : Nat} (h : flags.getLsbD bit = true) :
    withFlag flags bit = flags := by
  unfold withFlag
  ext i hi
  simp only [BitVec.getElem_or, BitVec.getElem_twoPow]
  by_cases e : i = bit
  · subst e; rw [← BitVec.getLsbD_eq_getElem]; simp [h]
  · simp [e]

/-- The summary re-evaluated after a change from `s` to `t` that left the waiting NOTE alone: the NOTE joins the tail (R178). -/
theorem State.noteIfTurned_eq_setQueue {s t : State} (h : t.noteWaiting = s.noteWaiting) :
    t.noteIfTurned s = t.setQueue (t.tx.queue ++ noteFor s t) := by
  unfold State.noteIfTurned noteFor
  rw [h]
  by_cases c : (!s.summary && t.summary && !s.noteWaiting) = true
  · rw [if_pos c]
    simp only [Bool.and_eq_true, Bool.not_eq_true'] at c
    rw [if_pos (by tauto)]; rfl
  · rw [if_neg c]
    simp only [Bool.and_eq_true, Bool.not_eq_true'] at c
    rw [if_neg (by tauto), List.append_nil]; rfl

/-- A device flag raised: the flag set, the NOTE it calls for queued (R176, R178). -/
theorem State.raiseDevice_eq (f : DeviceFlag) : s.raiseDevice f = afterDeviceFlag s s.rx f.bit := by
  unfold State.raiseDevice
  split
  · rename_i h
    have e : withFlag s.dev.flags f.bit = s.dev.flags := withFlag_of_set h
    have q : noteFor s s = [] := by simp +contextual [noteFor]
    show s = { s with
      dev := { s.dev with flags := withFlag s.dev.flags f.bit },
      tx := { s.tx with
        queue := s.tx.queue ++ noteFor s { s with dev := { s.dev with flags := withFlag s.dev.flags f.bit } } } }
    rw [e]
    show s = { s with tx := { s.tx with queue := s.tx.queue ++ noteFor s s } }
    rw [q, List.append_nil]
  · exact State.noteIfTurned_eq_setQueue (s := s)
      (t := { s with dev := { s.dev with flags := s.dev.flags ||| BitVec.twoPow 4 f.bit } }) rfl

/-- A device flag raised beside a change of the receive side (R158, R159, R176). -/
theorem State.raiseDevice_rx (rx : RxPort) (f : DeviceFlag) :
    { s with rx := rx }.raiseDevice f = afterDeviceFlag s rx f.bit :=
  State.raiseDevice_eq _ f

/-- The NOTE after a change of flags or masks that left the queue alone (R178). -/
theorem State.noteIfTurned_queue {s t : State} (ht : t.tx.queue = s.tx.queue) :
    (t.noteIfTurned s).tx.queue = s.tx.queue ++ noteFor s (t.noteIfTurned s) := by
  have hsum : (t.pushTx .note).summary = t.summary := rfl
  have hn : t.noteWaiting = s.noteWaiting := by simp [State.noteWaiting, ht]
  unfold State.noteIfTurned
  by_cases h : (!s.summary && t.summary && !t.noteWaiting) = true
  · rw [if_pos h]
    simp only [Bool.and_eq_true, Bool.not_eq_true', hn] at h
    simp [noteFor, hsum, h, ht]
  · rw [if_neg h]
    simp only [Bool.and_eq_true, Bool.not_eq_true', hn] at h
    rw [noteFor, if_neg (by tauto)]
    simp [ht]

/-- The queue after a raise of a stream flag: the NOTE it calls for, if any, at the tail (R178). -/
theorem State.raise_queue (f : StreamFlag) :
    (s.raise n f).tx.queue = s.tx.queue ++ noteFor s (s.raise n f) := by
  unfold State.raise
  split
  · simp +contextual [noteFor]
  · exact State.noteIfTurned_queue rfl

/-- The queue after a raise of a device flag (R178). -/
theorem State.raiseDevice_queue (f : DeviceFlag) :
    (s.raiseDevice f).tx.queue = s.tx.queue ++ noteFor s (s.raiseDevice f) := by
  unfold State.raiseDevice
  split
  · simp +contextual [noteFor]
  · exact State.noteIfTurned_queue rfl

/-- What a raise of a device flag does to the device flags (R176). -/
theorem State.raiseDevice_dev (f : DeviceFlag) :
    (s.raiseDevice f).dev = { s.dev with flags := withFlag s.dev.flags f.bit } := by
  unfold State.raiseDevice
  split
  · rename_i h; rw [withFlag_of_set h]
  · rw [State.noteIfTurned_dev]; rfl

@[simp] theorem State.raiseDevice_stream (f : DeviceFlag) : (s.raiseDevice f).stream n = s.stream n := by
  unfold State.raiseDevice
  split
  · rfl
  · rw [State.noteIfTurned_stream]; rfl

/-! ### What an arbitration may change of a stream -/

/-- Every stream keeps its content. -/
def State.SameContents (s t : State) : Prop := ∀ m, (s.stream m).SameContent (t.stream m)

theorem State.SameContents.refl (s : State) : s.SameContents s := fun _ => .refl _

theorem State.SameContents.trans {s t u : State} (a : s.SameContents t) (b : t.SameContents u) : s.SameContents u :=
  fun m => (a m).trans (b m)

theorem State.modStream_contents {f : Stream → Stream} (h : ∀ st : Stream, st.SameContent (f st)) :
    s.SameContents (s.modStream n f) := fun m => by
  rw [State.stream_modStream]; split
  · exact h _
  · exact .refl _

theorem State.raise_contents (f : StreamFlag) : s.SameContents (s.raise n f) := fun m => by
  rw [State.raise_stream]; split
  · constructor <;> rfl
  · exact .refl _

theorem State.raiseIf_contents (c : Bool) (f : StreamFlag) : s.SameContents (s.raiseIf c n f) := by
  unfold State.raiseIf; split
  · exact s.raise_contents n f
  · exact .refl s

theorem State.reevaluate_contents : s.SameContents (s.reevaluate n) :=
  (s.modStream_contents n (fun _ => by constructor <;> rfl)).trans (State.raiseIf_contents _ _ _ _)

theorem State.enterPlaying_contents (r : GateReason) : s.SameContents (s.enterPlaying n r) := fun m => by
  by_cases h : n = m
  · subst h; rw [State.enterPlaying_stream]; constructor <;> rfl
  · rw [s.enterPlaying_elsewhere n r m (Ne.symm h)]; exact .refl _

theorem State.readinessTest_contents : s.SameContents (s.readinessTest n) := by
  unfold State.readinessTest; split
  · exact s.enterPlaying_contents n _
  · exact .refl s

theorem State.windowChanged_contents : s.SameContents (s.windowChanged n) :=
  (s.reevaluate_contents n).trans (State.readinessTest_contents _ _)

theorem State.takeDecision_contents (r : Nat) : s.SameContents (s.takeDecision n r) :=
  (s.modStream_contents n (fun _ => by constructor <;> rfl)).trans (State.raiseIf_contents _ _ _ _)

/-- The streams after a record is made (R48). -/
theorem State.makeRecord_stream (e : WindowEntry) (k : FetchKind) (rung : Nat) (m : Slot) :
    (s.makeRecord n e k rung).stream m = if n = m then (s.stream m).granted e.segment rung else s.stream m :=
  State.stream_modStream
    { s with pool := { records := s.pool.records ++ [s.newRecord n e k rung], nextTag := tagAfter (s.newRecord n e k rung).tag } }
    n m (fun st => st.granted e.segment rung)

theorem State.makeRecord_contents (e : WindowEntry) (k : FetchKind) (rung : Nat) :
    s.SameContents (s.makeRecord n e k rung) := fun m => by
  rw [State.makeRecord_stream]; split
  · constructor <;> rfl
  · exact .refl _

theorem State.grantNormal_contents : s.SameContents (s.grantNormal n) := by
  unfold State.grantNormal
  split
  · exact .refl s
  · refine .trans ?_ (State.windowChanged_contents _ _)
    exact (s.takeDecision_contents n _).trans (State.makeRecord_contents _ n _ _ _)

theorem State.grantProbe_contents : s.SameContents (s.grantProbe n) := by
  unfold State.grantProbe
  split
  · exact .refl s
  · refine .trans ?_ (State.windowChanged_contents _ _)
    exact (s.modStream_contents n (fun _ => by constructor <;> rfl)).trans (State.makeRecord_contents _ n _ _ _)

theorem State.grants_contents (k : Nat) : ∀ s : State, s.SameContents (State.grants k s) := by
  induction k with
  | zero => exact .refl
  | succ k ih =>
    intro s
    unfold State.grants
    split
    · split
      · exact (s.grantNormal_contents _).trans (ih _)
      · exact (s.grantProbe_contents _).trans (ih _)
      · exact .refl s
    · exact .refl s

theorem State.dryTest_contents (n : Slot) (s : State) : s.SameContents (s.dryTest n) := by
  unfold State.dryTest
  split
  · exact (s.raise_contents n _).trans (State.modStream_contents _ _ (fun _ => by constructor <;> rfl))
  · exact .refl s

/-- An arbitration keeps every stream's content (R129). -/
theorem State.arbitrate_contents : s.SameContents s.arbitrate :=
  (State.forSlots_rel (R := State.SameContents) (fun a b => a.trans b) State.dryTest_contents s).trans
    (State.grants_contents _ _)

theorem State.settle_contents (b : State) : s.SameContents (s.settle b) := by
  unfold State.settle; split
  · exact s.arbitrate_contents
  · exact .refl s

/-! ### The part of its own (log entries 4 and 5) -/

theorem placeAt_perm {α : Type} (x : α) (l : List α) (p : Nat) : (placeAt x l p).Perm (x :: l) := by
  induction l generalizing p with
  | nil => exact .refl _
  | cons y ys ih =>
    cases p with
    | zero => exact .refl _
    | succ p => exact (List.Perm.cons y (ih p)).trans (List.Perm.swap x y ys)

/-- A free order is an order of the same things (log entry 5). -/
theorem freeOrder_perm {α : Type} (k : Nat) (l : List α) : (freeOrder k l).Perm l := by
  induction l with
  | nil => exact .refl _
  | cons x xs ih => exact (placeAt_perm x _ _).trans (List.Perm.cons x ih)

/-- The expiry of a timer is among the events due exactly where the timer runs and its time has come. -/
theorem State.mem_ifDue {s : State} {timer : Option Nat} {c d : Instr} :
    c ∈ s.ifDue timer d ↔ c = d ∧ ∃ e ∈ timer, e ≤ s.now := by
  cases timer <;> simp [State.ifDue, State.isDue, and_comm]

/-- An idle step of a running part with something ready or due takes one such event up. -/
theorem State.idle_of_events {s : State} (h : s.phase = .running) (he : s.readyEvents ++ s.dueEvents ≠ []) :
    ∃ c ∈ s.readyEvents ++ s.dueEvents, s.idle = { s with choices := s.choices + 1, pending := [c] } := by
  have p := freeOrder_perm s.choices (s.readyEvents ++ s.dueEvents)
  unfold State.idle
  rw [if_pos h]
  split
  · rename_i e; rw [e] at p; exact absurd p.symm.eq_nil he
  · rename_i c cs e; rw [e] at p; exact ⟨c, p.subset (List.mem_cons_self ..), rfl⟩

/-- With nothing ready or due, time passes in a running part. -/
theorem State.idle_of_no_events {s : State} (h : s.phase = .running) (he : s.readyEvents ++ s.dueEvents = []) :
    s.idle = s.passTime := by
  unfold State.idle
  rw [if_pos h, he]
  rfl

/-- A part whose time base has not started stays as it is (R174). -/
theorem State.idle_of_not_running {s : State} (h : s.phase ≠ .running) : s.idle = s := if_neg h

end Sys2Proof.Machine
end

