-- ==== Sys2Proof/Laws/PerInstr.lean ====
section
/-! SUPPORT. Laws of each command as syntax: a well-formed request row carries a frame that fits the receiver, and the decoder finds
in that frame a well-formed command that carries it. -/

namespace Sys2Proof.Laws

open Sys2Proof Sys2Proof.Machine

/-- The frame of a well-formed command fits the receiver (R157), and the command that the frame spells (R160, R162) carries the same
frame. -/
def CarriesItsFrame.Statement (i : Instr) : Prop :=
  ∀ f, requestFrame i = some f → i.wf = true → f.body.length < 250 ∧ requestFrame (commandOf f) = some f

/-- A row whose well-formedness asks at least for a body that fits, and whose frame spells a command that carries it. -/
theorem CarriesItsFrame.of_row {i : Instr} {f : Frame} (h : requestFrame i = some f)
    (fits : i.wf = true → bodyFits f.body = true) (spells : requestFrame (commandOf f) = some f) :
    CarriesItsFrame.Statement i := by
  intro g hg w
  cases Option.some.inj (h.symm.trans hg)
  exact ⟨of_decide_eq_true (fits w), spells⟩

/-- A row that carries no frame. -/
theorem CarriesItsFrame.of_none {i : Instr} (h : requestFrame i = none) : CarriesItsFrame.Statement i := by
  intro f hf
  rw [h] at hf
  cases hf

/-- A kind that is no request kind spells an unknown kind. -/
theorem commandOf_unknown {kind : Byte} (body : List Byte) (h : requestKinds.contains kind = false) :
    commandOf ⟨kind, body⟩ = .unknownKindRequest kind body := by
  have far : ∀ k : Byte, requestKinds.contains k = false →
      k.toNat ∉ [1, 2, 3, 4, 5, 6, 16, 17, 18, 19, 20, 21, 22, 23, 24, 25, 26, 27] := by decide
  have out := far kind h
  simp only [List.mem_cons, List.not_mem_nil, or_false, not_or] at out
  dsimp only [commandOf]
  split <;> first | omega | rfl

/-- A RESTART frame spells one of its two rows. -/
theorem CarriesItsFrame.spells_restart (body : List Byte) : requestFrame (commandOf ⟨0x02, body⟩) = some ⟨0x02, body⟩ := by
  change requestFrame (if restartRow .streams body then .restartStreams body else .restartAll body) = _
  split <;> rfl

/-- A QUERY frame spells one of its three rows. -/
theorem CarriesItsFrame.spells_query (body : List Byte) : requestFrame (commandOf ⟨0x06, body⟩) = some ⟨0x06, body⟩ := by
  change requestFrame (if queryStreamRow body then .queryStream body
    else if queryLinkRow body then .queryLink body else .queryRecord body) = _
  split
  · rfl
  · split <;> rfl

/-- A PLAYCTL frame spells one of its four rows. -/
theorem CarriesItsFrame.spells_playctl (body : List Byte) : requestFrame (commandOf ⟨0x14, body⟩) = some ⟨0x14, body⟩ := by
  change requestFrame (if playctlRow .play body then .play body
    else if playctlRow .pause body then .pause body
    else if playctlRow .seek body then .seek body else .stop body) = _
  split
  · rfl
  · split
    · rfl
    · split <;> rfl

theorem CarriesItsFrame.nrstAssert : CarriesItsFrame.Statement (.nrstAssert) := CarriesItsFrame.of_none rfl
theorem CarriesItsFrame.nrstRelease : CarriesItsFrame.Statement (.nrstRelease) := CarriesItsFrame.of_none rfl
theorem CarriesItsFrame.timeBaseStart : CarriesItsFrame.Statement (.timeBaseStart) := CarriesItsFrame.of_none rfl
theorem CarriesItsFrame.receiveByte (b : Byte) (stopLow : Bool) : CarriesItsFrame.Statement (.receiveByte b stopLow) := CarriesItsFrame.of_none rfl
theorem CarriesItsFrame.gapTimerExpiry : CarriesItsFrame.Statement (.gapTimerExpiry) := CarriesItsFrame.of_none rfl
theorem CarriesItsFrame.unknownKindRequest (kind : Byte) (body : List Byte) : CarriesItsFrame.Statement (.unknownKindRequest kind body) :=
  fun f hf w => by
    cases Option.some.inj hf
    have both := Bool.and_eq_true_iff.mp w
    exact ⟨of_decide_eq_true both.1, by rw [commandOf_unknown body (by simpa using both.2)]; rfl⟩
theorem CarriesItsFrame.transmitStart : CarriesItsFrame.Statement (.transmitStart) := CarriesItsFrame.of_none rfl
theorem CarriesItsFrame.transmitComplete : CarriesItsFrame.Statement (.transmitComplete) := CarriesItsFrame.of_none rfl
theorem CarriesItsFrame.ident (body : List Byte) : CarriesItsFrame.Statement (.ident body) := CarriesItsFrame.of_row rfl id rfl
theorem CarriesItsFrame.restartStreams (body : List Byte) : CarriesItsFrame.Statement (.restartStreams body) :=
  CarriesItsFrame.of_row rfl (fun w => (Bool.and_eq_true_iff.mp w).1) (CarriesItsFrame.spells_restart body)
theorem CarriesItsFrame.restartAll (body : List Byte) : CarriesItsFrame.Statement (.restartAll body) :=
  CarriesItsFrame.of_row rfl (fun w => (Bool.and_eq_true_iff.mp w).1) (CarriesItsFrame.spells_restart body)
theorem CarriesItsFrame.limits (body : List Byte) : CarriesItsFrame.Statement (.limits body) := CarriesItsFrame.of_row rfl id rfl
theorem CarriesItsFrame.mask (body : List Byte) : CarriesItsFrame.Statement (.mask body) := CarriesItsFrame.of_row rfl id rfl
theorem CarriesItsFrame.flags (body : List Byte) : CarriesItsFrame.Statement (.flags body) := CarriesItsFrame.of_row rfl id rfl
theorem CarriesItsFrame.queryStream (body : List Byte) : CarriesItsFrame.Statement (.queryStream body) :=
  CarriesItsFrame.of_row rfl (fun w => (Bool.and_eq_true_iff.mp w).1) (CarriesItsFrame.spells_query body)
theorem CarriesItsFrame.queryLink (body : List Byte) : CarriesItsFrame.Statement (.queryLink body) :=
  CarriesItsFrame.of_row rfl (fun w => (Bool.and_eq_true_iff.mp w).1) (CarriesItsFrame.spells_query body)
theorem CarriesItsFrame.queryRecord (body : List Byte) : CarriesItsFrame.Statement (.queryRecord body) :=
  CarriesItsFrame.of_row rfl (fun w => (Bool.and_eq_true_iff.mp w).1) (CarriesItsFrame.spells_query body)
theorem CarriesItsFrame.openSlot (body : List Byte) : CarriesItsFrame.Statement (.openSlot body) := CarriesItsFrame.of_row rfl id rfl
theorem CarriesItsFrame.tune (body : List Byte) : CarriesItsFrame.Statement (.tune body) := CarriesItsFrame.of_row rfl id rfl
theorem CarriesItsFrame.ladder (body : List Byte) : CarriesItsFrame.Statement (.ladder body) := CarriesItsFrame.of_row rfl id rfl
theorem CarriesItsFrame.append (body : List Byte) : CarriesItsFrame.Statement (.append body) := CarriesItsFrame.of_row rfl id rfl
theorem CarriesItsFrame.play (body : List Byte) : CarriesItsFrame.Statement (.play body) :=
  CarriesItsFrame.of_row rfl (fun w => (Bool.and_eq_true_iff.mp w).1) (CarriesItsFrame.spells_playctl body)
theorem CarriesItsFrame.pause (body : List Byte) : CarriesItsFrame.Statement (.pause body) :=
  CarriesItsFrame.of_row rfl (fun w => (Bool.and_eq_true_iff.mp w).1) (CarriesItsFrame.spells_playctl body)
theorem CarriesItsFrame.seek (body : List Byte) : CarriesItsFrame.Statement (.seek body) :=
  CarriesItsFrame.of_row rfl (fun w => (Bool.and_eq_true_iff.mp w).1) (CarriesItsFrame.spells_playctl body)
theorem CarriesItsFrame.stop (body : List Byte) : CarriesItsFrame.Statement (.stop body) :=
  CarriesItsFrame.of_row rfl (fun w => (Bool.and_eq_true_iff.mp w).1) (CarriesItsFrame.spells_playctl body)
theorem CarriesItsFrame.close (body : List Byte) : CarriesItsFrame.Statement (.close body) := CarriesItsFrame.of_row rfl id rfl
theorem CarriesItsFrame.position (body : List Byte) : CarriesItsFrame.Statement (.position body) := CarriesItsFrame.of_row rfl id rfl
theorem CarriesItsFrame.probe (body : List Byte) : CarriesItsFrame.Statement (.probe body) := CarriesItsFrame.of_row rfl id rfl
theorem CarriesItsFrame.tally (body : List Byte) : CarriesItsFrame.Statement (.tally body) := CarriesItsFrame.of_row rfl id rfl
theorem CarriesItsFrame.landed (body : List Byte) : CarriesItsFrame.Statement (.landed body) := CarriesItsFrame.of_row rfl id rfl
theorem CarriesItsFrame.broken (body : List Byte) : CarriesItsFrame.Statement (.broken body) := CarriesItsFrame.of_row rfl id rfl
theorem CarriesItsFrame.link (body : List Byte) : CarriesItsFrame.Statement (.link body) := CarriesItsFrame.of_row rfl id rfl
theorem CarriesItsFrame.startTimerExpiry (n : Slot) : CarriesItsFrame.Statement (.startTimerExpiry n) := CarriesItsFrame.of_none rfl
theorem CarriesItsFrame.stallTimerExpiry (n : Slot) : CarriesItsFrame.Statement (.stallTimerExpiry n) := CarriesItsFrame.of_none rfl
theorem CarriesItsFrame.drainStep (n : Slot) : CarriesItsFrame.Statement (.drainStep n) := CarriesItsFrame.of_none rfl
theorem CarriesItsFrame.deadlineExpiry (tag : Nat) : CarriesItsFrame.Statement (.deadlineExpiry tag) := CarriesItsFrame.of_none rfl
theorem CarriesItsFrame.probeDeadlineExpiry (tag : Nat) : CarriesItsFrame.Statement (.probeDeadlineExpiry tag) := CarriesItsFrame.of_none rfl
theorem CarriesItsFrame.sampleTimerExpiry : CarriesItsFrame.Statement (.sampleTimerExpiry) := CarriesItsFrame.of_none rfl
theorem CarriesItsFrame.dwellExpiry : CarriesItsFrame.Statement (.dwellExpiry) := CarriesItsFrame.of_none rfl
theorem CarriesItsFrame.envelopeStepExpiry (n : Slot) : CarriesItsFrame.Statement (.envelopeStepExpiry n) := CarriesItsFrame.of_none rfl

end Sys2Proof.Laws
end

