-- ==== Sys2Proof/Tests/Slice0.lean ====
section
/-! SUPPORT. The model's own tests: an ill-formed term for each check of well-formedness, examples of the spec worked by the model,
and for each statement with hypotheses a state and operands that meet them. -/

-- As one text the package holds many theorems: they are elaborated one after another.
set_option Elab.async false

namespace Sys2Proof.Tests

open Sys2Proof Sys2Proof.Machine

/-! ### States -/

/-- The state a command leaves. -/
def after (o : Out) : State :=
  match o with
  | .next t => t
  | .fault e => nomatch e
  | .refused _ => State.reset

/-- A ladder of four rungs. -/
def rungs : List Rung := [⟨300, 0⟩, ⟨1200, 500⟩, ⟨2500, 1200⟩, ⟨4000, 0⟩]

/-- A configuration of priority 1 and guard and start rung 1, with the default marks. -/
def cfg : SlotConfig := openConfig 1 1 1 2000 4000 12000 20000 30000

/-- A window entry of 2,000 ms. -/
def entry (seg : Nat) (st : EntryState) : WindowEntry := ⟨seg, 2000, false, false, none, st, 0⟩

/-- A stream just opened. -/
def idle : Stream := { Stream.closed with state := .idle, cfg := cfg, dryArmed := true }

/-- A stream in IDLE with a ladder. -/
def laddered : Stream := { idle with ladder := rungs, ceiling := 3, current := 1 }

/-- A stream in STARTING, nothing landed. -/
def starting : Stream :=
  { laddered with state := .starting, startTimer := some 10000, startLimit := true, share := 2700, origin := some 12,
                  window := [entry 11 (.inFlight 1), entry 12 .waiting], prevGrant := some 1 }

/-- A stream in PLAYING with one segment buffered, one in flight and one waiting. -/
def playing : Stream :=
  { starting with state := .playing, gate := true, startTimer := none, drainTimer := some 10, startLimit := false,
                  buffer := [⟨10, 1, 2000, 2000⟩], margin := .near1, landedThrough := some 10 }

/-- A stream in REBUFFERING. -/
def rebuffering : Stream :=
  { playing with state := .rebuffering, gate := false, drainTimer := none, stallTimer := some 8000, buffer := [],
                 margin := .empty }

/-- A stream in PAUSED. -/
def paused : Stream := { playing with state := .paused, gate := false, drainTimer := none }

/-- A stream in ENDED. -/
def ended : Stream := { laddered with state := .ended, finalKnown := true, lastAppended := true, origin := some 12 }

/-- The live record of the segment in flight, announced. -/
def record : Record :=
  { tag := 5, slot := 0, segment := 11, kind := .normal, rung := 1, init := none, expected := some 300000, reported := 1000,
    running := true, announcePending := false, grantTime := 0, deadline := 4000 }

/-- A probe of the segment behind it. -/
def probeRecord : Record := { record with tag := 6, segment := 12, kind := .probe, rung := 2, deadline := 2000 }

/-- The part with stream 0 as given, the other slots CLOSED and nothing to send. -/
def only (st : Stream) : State :=
  { State.reset with
    tx := { queue := [], sending := none }, streams := #v[st, Stream.closed, Stream.closed, Stream.closed] }

/-- The same with live records. -/
def fetching (st : Stream) (rs : List Record) : State := { only st with pool := { records := rs, nextTag := 7 } }

/-- PLAYING with a live probe beside the normal record. -/
def probing : State :=
  fetching { playing with window := [entry 11 (.inFlight 1), entry 12 (.inFlight 2)], probeLive := true } [record, probeRecord]

/-- A LIMITS with the default values. -/
def limits0 : LimitsReq := ⟨3000, 1000000, 3, none, ⟨50, 150, 300⟩, ⟨50, 70, 85⟩, 3000, 150⟩

/-- A TUNE with the default values and a lift. -/
def tune0 : TuneReq := ⟨0, 2000, false, 8, 16, 10000, 8000, 256, true⟩

/-- An APPEND of two entries. -/
def append0 : AppendReq := ⟨0, [⟨13, 2000, 0, []⟩, ⟨14, 2000, 0x02, []⟩]⟩

/-! ### Well-formed commands -/

theorem test_wf_body_too_long : (Instr.ident (List.replicate 250 0)).wf = false := by decide +kernel
theorem test_wf_unknown_kind_is_a_request_kind : (Instr.unknownKindRequest 0x01 []).wf = false := by decide
theorem test_wf_restart_of_the_other_scope :
    (Instr.restartStreams [2]).wf = false ∧ (Instr.restartAll [1]).wf = false := by decide
theorem test_wf_query_of_another_view :
    (Instr.queryStream [2]).wf = false ∧ (Instr.queryLink [3, 5]).wf = false ∧ (Instr.queryRecord [2]).wf = false := by
  decide
theorem test_wf_playctl_of_another_action :
    (Instr.play [0, 2]).wf = false ∧ (Instr.pause [0, 1]).wf = false ∧ (Instr.seek [0, 1]).wf = false ∧
      (Instr.stop [0, 1]).wf = false := by decide
theorem test_wf_tag_of_no_record : (Instr.deadlineExpiry 0).wf = false ∧ (Instr.probeDeadlineExpiry 256).wf = false := by
  decide
theorem test_wf_examples : (Instr.play [0, 1]).wf = true ∧ (Instr.unknownKindRequest 0x60 []).wf = true ∧
    (Instr.deadlineExpiry 255).wf = true ∧ (Instr.queryLink [2]).wf = true := by decide

/-! ### Examples of the spec -/

/-- The five bytes of RESTART ALL (R175) reach the receive buffer. -/
theorem test_restart_all_bytes :
    after (feedLine [0xC5, 0x02, 0x02, 0x02, 0xF2] (only idle)) = { only idle with
      rx := { receiver := .hunt, gapTimer := none, buffer := [⟨0x02, [0x02]⟩] } } := by decide +kernel

/-- The drain steps of playback rate 300 (R75). -/
theorem test_drain_amounts :
    let st : Stream := { playing with cfg := { cfg with playbackRate := 300 } }
    let step := fun acc => ({ st with acc := acc }.drainAmount, { st with acc := acc }.drained.acc)
    step 0 = (11, 184) ∧ step 184 = (12, 112) ∧ step 112 = (12, 40) ∧ step 40 = (11, 224) ∧ step 224 = (12, 152) := by
  decide +kernel

/-- The sample intervals of 5.7.1: expiries 1, 2, 3 and 5. -/
theorem test_sample_intervals :
    let after := fun (f s bytes : Nat) =>
      let e : Estimator := { Estimator.reset 0 with
        fast := f, slow := s, estimate := min f s, intervalBytes := bytes, intervalBusy := true }
      (e.sampled.fast, e.sampled.slow, e.sampled.estimate)
    after 3000 3000 250000 = (3500, 3125, 3125) ∧ after 3500 3125 125000 = (2750, 2984, 2750) ∧
      after 2750 2984 0 = (1375, 2611, 1375) ∧ after 1375 2611 312500 = (3187, 2909, 2909) := by decide +kernel

/-- Usable capacity: the fourth and fifth rows of the table of R104. -/
theorem test_usable_capacity :
    { State.reset with
      est := { Estimator.reset 0 with estimate := 5555, sagTrim := 13 },
      cls := { Classifier.reset with zone := .crowded } }.usableNow = 2933 ∧
    { State.reset with
      est := { Estimator.reset 0 with estimate := 20000 }, sharing := { protect := none, linkCeiling := 4000 } }.usableNow =
        4000 := by decide +kernel

/-- The allocation of 7.2.1: shares 2,600, 699 and 300 of 3,600. -/
theorem test_allocation_example :
    let stream := fun (p : Nat) (l : List Rung) => { playing with ladder := l, cfg := { cfg with priority := p, guardRung := 0 } }
    let s := { State.reset with
      sharing := { protect := some 0, linkCeiling := 1000000 },
      streams := #v[stream 0 [⟨1200, 0⟩, ⟨6000, 0⟩], stream 1 [⟨2500, 0⟩], stream 2 [⟨300, 0⟩], Stream.closed] }
    [0, 1, 2, 3].map (shareIn (s.allocation 3600)) = [2600, 699, 300, 0] := by decide +kernel

/-- The five decisions of 8.2.1. -/
theorem test_decision_examples :
    let st : Stream := { playing with
      ladder := [⟨300, 0⟩, ⟨700, 0⟩, ⟨1200, 0⟩, ⟨2000, 0⟩, ⟨3500, 0⟩, ⟨6000, 0⟩], share := 2600, current := 2, ceiling := 4 }
    let at_ := fun (m : Margin) (b : Nat) => { st with margin := m, buffer := [⟨1, 0, b, b⟩] }
    (at_ .near1 1000).normalRung .clear = 2 ∧ (at_ .near2 3000).normalRung .clear = 2 ∧
      (at_ .none 9000).normalRung .clear = 3 ∧ (at_ .none 15000).normalRung .busy = 3 ∧
      (at_ .none 15000).normalRung .crowded = 2 ∧ ({ at_ .near1 1000 with share := 700 }).normalRung .clear = 0 := by
  decide +kernel

/-- The tag counter wraps from 255 to 1 and passes over live tags (R47). -/
theorem test_next_tag :
    Pool.freeTag { records := [], nextTag := 255 } = 255 ∧ tagAfter 255 = 1 ∧
      Pool.freeTag { records := [{ record with tag := 255 }, { record with tag := 1 }], nextTag := 255 } = 2 := by decide

/-- The stall with a rescue of 4.11.1: ceiling 1, both records dropped, and the REFETCH of 51 at rung 0. -/
theorem test_stall_with_rescue :
    let st : Stream := { playing with
      ladder := [⟨300, 0⟩, ⟨700, 0⟩, ⟨1200, 0⟩, ⟨2000, 0⟩, ⟨3500, 0⟩], ceiling := 4, current := 3, buffer := [],
      margin := .empty, origin := some 53,
      window := [entry 51 (.inFlight 3), entry 52 (.inFlight 4), entry 53 .waiting], probeLive := true }
    let t := after (exec (.drainStep 0) (fetching st
      [{ record with tag := 21, segment := 51, rung := 3, expected := some 900000, reported := 300000 },
       { record with tag := 22, segment := 52, rung := 4, kind := .probe, expected := none }]))
    (t.stream 0).state = .rebuffering ∧ (t.stream 0).ceiling = 1 ∧ (t.stream 0).current = 0 ∧
      (t.stream 0).window.map WindowEntry.state = [.inFlight 0, .waiting, .waiting] ∧
      t.pool.records.map Record.kind = [.refetch] ∧
      t.tx.queue.take 3 = [.gate 0 false .stall, .drop 22 .stall, .drop 21 .rescue] ∧
      (t.stream 0).flags = 0x0A2#11 := by decide +kernel

/-- The renderer ahead of the model of 4.11.3: B 3,500 in the reply, NEAR2, the accumulator 0. -/
theorem test_position_example :
    let st : Stream := { playing with
      buffer := [⟨60, 1, 2000, 1200⟩, ⟨61, 1, 2000, 2000⟩, ⟨62, 1, 2000, 2000⟩], margin := .none, acc := 96,
      window := [], origin := some 62 }
    let t := after (exec (.position (positionBody ⟨0, 61, 500⟩)) (only st))
    (t.stream 0).buffer.map BufferEntry.remaining = [1500, 2000] ∧ (t.stream 0).margin = .near2 ∧ (t.stream 0).acc = 0 ∧
      t.tx.queue = [.reply 0x96 [0x00, 0x00, 0x0D, 0xAC]] := by decide +kernel

/-- The life of record 37 of 3.10.1: the grant of segment 310. -/
theorem test_grant_example :
    let st : Stream := { playing with
      ladder := [⟨300, 0⟩, ⟨1200, 0⟩, ⟨2500, 1200⟩, ⟨4000, 0⟩], prevGrant := some 1,
      window := [⟨310, 2000, false, false, some [0, 0, 640000, 0], .waiting, 0⟩] }
    let s := { only st with now := 50000, pool := { records := [], nextTag := 37 } }
    let t := s.makeRecord 0 ⟨310, 2000, false, false, some [0, 0, 640000, 0], .waiting, 0⟩ .normal 2
    t.pool = { records := [{
        tag := 37, slot := 0, segment := 310, kind := .normal, rung := 2, init := some 1200, expected := some 640000,
        reported := 0, running := false, announcePending := true, grantTime := 50000, deadline := 54000 }], nextTag := 38 } ∧
      (t.stream 0).prevGrant = some 2 := by decide +kernel

/-- PLAY without a ladder is WRONG_STATE; with one it starts playback. -/
theorem test_play :
    (after (exec (.play [0, 1]) (only idle))).tx.queue = [.reply 0x94 [0x05]] ∧
      ((after (exec (.play [0, 1]) (only laddered))).stream 0).state = .starting := by decide +kernel

/-- A frame that does not fit the kind, an unknown slot, and a slot that is CLOSED. -/
theorem test_request_checks_in_order :
    (after (exec (.close [0, 0]) (only idle))).tx.queue = [.reply 0x95 [0x02]] ∧
      (after (exec (.close [4]) (only idle))).tx.queue = [.reply 0x95 [0x03]] ∧
      (after (exec (.close [3]) (only idle))).tx.queue = [.reply 0x95 [0x04]] := by decide +kernel

/-- Probe failure in CLEAR at an entry to JAMMED: the probe is dropped and the ceiling is 0. -/
theorem test_entry_to_jammed :
    let t := after (exec (.link (linkBody ⟨10, 400, 0⟩)) probing)
    t.cls.zone = .jammed ∧ (t.stream 0).ceiling = 0 ∧ t.pool.records = [record] ∧ .drop 6 .zone ∈ t.tx.queue := by
  decide +kernel

/-! ### States that meet the hypotheses of the statements -/

/-- PLAYING with its normal record live. -/
def busy : State := fetching playing [record]

/-- A hunting part whose receive buffer holds four frames. -/
def fullBuffer : State := { only idle with rx := { receiver := .hunt, gapTimer := none, buffer := List.replicate 4 ⟨0x01, []⟩ } }

/-- The receiver in a state. -/
def receiving (r : Receiver) : State := { only idle with rx := { receiver := r, gapTimer := some 3, buffer := [] } }

theorem busy_controlled : busy.controlled := by unfold State.controlled Stream.controlled; decide +kernel
theorem busy_ordered : busy.windowsOrdered := by unfold State.windowsOrdered Stream.ordered; decide +kernel
theorem busy_pool : busy.poolSound := by unfold State.poolSound; decide +kernel
theorem busy_sound : busy.sound :=
  ⟨busy_pool, busy_controlled, busy_ordered, by unfold State.recordsAgree; decide +kernel,
    by unfold State.fillsBounded; decide +kernel⟩
theorem probing_pool : probing.poolSound := by unfold State.poolSound; decide +kernel
theorem probing_sound : probing.sound :=
  ⟨probing_pool, by unfold State.controlled Stream.controlled; decide +kernel,
    by unfold State.windowsOrdered Stream.ordered; decide +kernel, by unfold State.recordsAgree; decide +kernel,
    by unfold State.fillsBounded; decide +kernel⟩

/-- The states of a stream alone that the statements on SEEK, STOP, CLOSE and drain steps are about. -/
theorem ended_sound : (only ended).sound :=
  ⟨by unfold State.poolSound; decide +kernel, by unfold State.controlled Stream.controlled; decide +kernel,
    by unfold State.windowsOrdered Stream.ordered; decide +kernel, by unfold State.recordsAgree; decide +kernel,
    by unfold State.fillsBounded; decide +kernel⟩

/-- PLAYING with the last segment's last milliseconds buffered. -/
def lastOne (ms : Nat) (known : Bool) : State :=
  only { playing with window := [], buffer := if ms = 0 then [] else [⟨10, 1, 2000, ms⟩], finalKnown := known }

theorem lastOne_sound : (lastOne 4 true).sound ∧ (lastOne 10 true).sound ∧ (lastOne 0 false).sound := by
  refine ⟨⟨?_, ?_, ?_, ?_, ?_⟩, ⟨?_, ?_, ?_, ?_, ?_⟩, ?_, ?_, ?_, ?_, ?_⟩ <;>
    first
    | (unfold State.poolSound; decide +kernel)
    | (unfold State.controlled Stream.controlled; decide +kernel)
    | (unfold State.windowsOrdered Stream.ordered; decide +kernel)
    | (unfold State.recordsAgree; decide +kernel)
    | (unfold State.fillsBounded; decide +kernel)

theorem test_meets_StepRunsTheFrontCommand : { State.reset with pending := [.flags []] }.pending = .flags [] :: [] := by rfl

/-- Each event of the part itself, at the ms in which its time comes. -/
theorem test_meets_IdlePartTakesUpWhatHappensNow :
    State.reset.happensNow .transmitStart ∧
    { receiving .length with now := 3 }.happensNow .gapTimerExpiry ∧
    { only idle with now := 500 }.happensNow .sampleTimerExpiry ∧
    { only idle with cls := { Classifier.reset with dwellTimer := some 0 } }.happensNow .dwellExpiry ∧
    { only starting with now := 10000 }.happensNow (.startTimerExpiry 0) ∧
    { only rebuffering with now := 8000 }.happensNow (.stallTimerExpiry 0) ∧
    { only playing with now := 10 }.happensNow (.drainStep 0) ∧
    (only { playing with stepTimer := some 0 }).happensNow (.envelopeStepExpiry 0) ∧
    { probing with now := 4000 }.happensNow (.deadlineExpiry 5) ∧
    { probing with now := 2000 }.happensNow (.probeDeadlineExpiry 6) :=
  ⟨by unfold State.happensNow; decide, ⟨3, rfl, le_refl _⟩, by unfold State.happensNow; decide, ⟨0, rfl, le_refl _⟩,
    ⟨10000, rfl, le_refl _⟩, ⟨8000, rfl, le_refl _⟩, ⟨10, rfl, le_refl _⟩, ⟨0, rfl, le_refl _⟩,
    ⟨record, by decide +kernel, rfl, by decide, by decide⟩, ⟨probeRecord, by decide +kernel, rfl, rfl, by decide⟩⟩

/-- The head frame's command, of its own row where several share its kind. -/
theorem test_meets_IdlePart_at_the_decoder :
    fullBuffer.happensNow (.ident []) ∧ ownRow (.seek [0, 3]) = true ∧ ownRow (.stop [0, 3]) = false ∧
      ownRow (.stop [4, 3]) = true ∧ ownRow (.restartAll [1]) = false ∧ ownRow (.queryLink [1, 0, 2]) = false ∧
      ownRow (.queryLink [1, 0, 3]) = true ∧ ownRow (.queryRecord [3, 255]) = true ∧
      ownRow (.unknownKindRequest 0x01 []) = false :=
  ⟨⟨⟨0x01, []⟩, _, rfl, by decide, rfl, rfl⟩, by decide, by decide, by decide, by decide, by decide, by decide, by decide,
    by decide⟩

/-- Nothing happens in the part just opened, whether its transmitter is idle or sends. -/
theorem test_meets_IdlePart_at_rest (sending : Option Sending) (c : Instr) :
    ¬{ only idle with tx := ⟨[], sending⟩ }.happensNow c := by
  have timers : ∀ n : Slot, ((only idle).stream n).startTimer = none ∧ ((only idle).stream n).stallTimer = none ∧
      ((only idle).stream n).drainTimer = none ∧ ((only idle).stream n).stepTimer = none := by decide +kernel
  have stream : ∀ n : Slot, ({ only idle with tx := ⟨[], sending⟩ } : State).stream n = (only idle).stream n := fun _ => rfl
  intro h
  cases c <;> simp_all [State.happensNow, only, State.reset, RxPort.reset, Pool.reset, Classifier.reset, Estimator.reset]

/-- A part with one event due takes up that event. -/
theorem test_idle_takes_the_event_due :
    (after (step { only starting with now := 10000, est := { Estimator.reset 0 with sampleTimer := 10500 } })).pending =
      [.startTimerExpiry 0] := by decide +kernel

theorem test_meets_NrstAndTimeBaseStart :
    isPowerRow .sampleTimerExpiry = false ∧ { State.reset with phase := .held }.phase ≠ .running ∧
      { State.reset with phase := .waiting }.phase ≠ .held := by decide

theorem test_meets_LineBytesDeliverTheirFrame :
    (only idle).phase = .running ∧ (only idle).rx.receiver = .hunt ∧ (List.replicate 249 (0 : Byte)).length < 250 ∧
      (only idle).rx.buffer.length < 4 := by decide +kernel

theorem test_meets_ReceiverTakesAByteByItsState :
    (receiving .hunt).rx.receiver = .hunt ∧ (0xC4 : Byte) ≠ 0xC5 ∧ (receiving .length).rx.receiver = .length ∧
      1 ≤ (0xFA : Byte).toNat ∧ (0xFA : Byte).toNat ≤ 250 ∧ (receiving (.body 2 [])).rx.receiver = .body 2 [] ∧
      ([] : List Byte).length + 1 < 2 ∧ ([1] : List Byte).length + 1 = 2 ∧
      (receiving (.check 1 [1])).rx.receiver = .check 1 (1 :: []) ∧ (receiving (.check 1 [1])).rx.buffer.length < 4 := by
  decide

theorem test_meets_LostFramesRaiseTheirFlag :
    faultyByte (receiving .length) 1 true ∧ faultyByte (receiving .length) 0 false ∧
      faultyByte (receiving .length) 251 false ∧ faultyByte (receiving (.check 1 [1])) 0x13 false ∧
      (receiving .length).rx.gapTimer = some 3 ∧ fullBuffer.rx.gapTimer = none ∧ 4 ≤ fullBuffer.rx.buffer.length := by
  refine ⟨.inl (by decide), .inr (.inl (by decide)), .inr (.inl (by decide)),
    .inr (.inr ⟨rfl, 1, 1, [], rfl, by decide +kernel⟩), rfl, rfl, by decide⟩

theorem test_meets_TransmitterSendsTheQueueInOrder :
    State.reset.tx.sending = none ∧ State.reset.tx.queue = .hello .powerOn :: [] ∧
      (TxFrame.note :: List.replicate 20 TxFrame.note).tail.length = 20 ∧ (only idle).tx.queue = [] := by decide

theorem test_meets_FramesHaveTheirLayouts :
    let d : FetchDirective := ⟨255, 3, 2 ^ 32 - 1, 9, 80000, .probe, 262143, 2 ^ 24 - 1, 40000⟩
    d.tag < 256 ∧ d.segment < 2 ^ 32 ∧ d.rung < 256 ∧ d.rate < 2 ^ 24 ∧ d.init < 2 ^ 24 ∧ d.expected < 2 ^ 24 ∧
      d.span < 2 ^ 16 := by decide

theorem test_meets_RequestBodiesReadBackTheirFields :
    openRangesOk cfg = true ∧ tuneRangesOk tune0 = true ∧ rungsOk rungs = true ∧ appendRanges append0.entries = true ∧
      limitsRangesOk limits0 = true ∧ limitsRangesOk { limits0 with protect := some 3 } = true ∧
      rungs.length ≤ 10 := by decide

theorem test_meets_EveryRequestIsAnsweredAndARefusalChangesNothing :
    requestFrame (.ident []) = some ⟨0x01, []⟩ ∧ (Instr.ident []).wf = true ∧ (only idle).atDoor ⟨0x01, []⟩ ∧
      { only idle with rx := { receiver := .length, gapTimer := some 3, buffer := [⟨0x01, []⟩] } }.atDoor ⟨0x01, []⟩ ∧
      requestFrame (.restartAll [2]) = some ⟨0x02, [2]⟩ ∧ (Instr.restartAll [2]).wf = true ∧
      ¬{ fullBuffer with tx := { queue := List.replicate 32 .note, sending := none } }.atDoor ⟨0x01, []⟩ ∧
      fullBuffer.rx.buffer.head? = some ⟨0x01, []⟩ ∧ ¬fullBuffer.atDoor ⟨0x05, []⟩ ∧
      fullBuffer.rx.buffer.head? ≠ some ⟨0x05, []⟩ ∧
      ¬{ only idle with tx := { queue := List.replicate 32 .note, sending := none } }.atDoor ⟨0x05, []⟩ ∧
      ¬(receiving .length).atDoor ⟨0x05, []⟩ := by
  decide

theorem test_meets_MalformedRequestsAreRefused :
    requestFrame (.close []) = some ⟨0x15, []⟩ ∧ requestKinds.contains 0x15 = true ∧ (only idle).atDoor ⟨0x15, []⟩ ∧
      lengthFits ⟨0x15, []⟩ = false ∧ lengthFits ⟨0x12, [0, 1]⟩ = false ∧ lengthFits ⟨0x13, [0]⟩ = false ∧
      lengthFits ⟨0x06, []⟩ = false ∧ lengthFits ⟨0x06, [1, 0]⟩ = false ∧ lengthFits ⟨0x06, [4, 0]⟩ = true ∧
      lengthFits ⟨0x13, appendBody append0⟩ = true ∧ lengthFits ⟨0x13, appendBody append0 ++ [0]⟩ = false ∧
      lengthFits ⟨0x13, (appendBody append0).dropLast⟩ = false := by decide +kernel

/-- A field just out of range in each kind, and none in a request that passes. -/
theorem test_out_of_range :
    ([⟨0x02, [3]⟩, ⟨0x03, limitsBody { limits0 with startEstimate := 63 }⟩, ⟨0x04, [16, 0, 0, 0, 0, 0, 0, 0, 0]⟩,
      ⟨0x06, [4, 0]⟩, ⟨0x06, [1, 4, 0]⟩, ⟨0x10, [4, 0]⟩, ⟨0x10, openBody ⟨0, openConfig 1 10 0 0 0 0 0 1⟩⟩,
      ⟨0x11, tuneBody { tune0 with playbackRate := 513 }⟩, ⟨0x12, ladderBody ⟨0, [⟨300, 0⟩, ⟨300, 0⟩]⟩⟩,
      ⟨0x13, appendBody ⟨0, [⟨13, 499, 0, []⟩]⟩⟩, ⟨0x13, appendBody ⟨0, [⟨13, 500, 0, []⟩, ⟨15, 500, 0, []⟩]⟩⟩, ⟨0x13, [0, 0]⟩,
      ⟨0x14, [0, 5]⟩, ⟨0x15, [4]⟩, ⟨0x16, positionBody ⟨0, 1, 10000⟩⟩, ⟨0x17, [4]⟩, ⟨0x1A, [1, 5]⟩,
      ⟨0x1B, linkBody ⟨0, 0, 0⟩⟩].all fun f => lengthFits f && outOfRange f) = true ∧
    ([⟨0x02, [2]⟩, ⟨0x03, limitsBody limits0⟩, ⟨0x10, [3, 3]⟩, ⟨0x11, tuneBody tune0⟩, ⟨0x12, ladderBody ⟨0, rungs⟩⟩,
      ⟨0x13, appendBody append0⟩, ⟨0x06, [3, 0]⟩, ⟨0x14, [3, 4]⟩].all fun f => lengthFits f && !outOfRange f) = true := by
  decide +kernel

theorem test_meets_ClosedSlotsAreRefused :
    ((only idle).stream 3).state = .closed ∧ ((only idle).stream 3).ladder = [] ∧ ((only idle).stream 3).origin = none ∧
      tuneRangesOk { tune0 with slot := 3 } = true ∧ (only idle).atDoor ⟨0x11, tuneBody { tune0 with slot := 3 }⟩ ∧
      parseLadder (ladderBody ⟨3, rungs⟩) = .ok ⟨3, rungs⟩ ∧ (only idle).atDoor ⟨0x12, ladderBody ⟨3, rungs⟩⟩ ∧
      parseAppend (appendBody ⟨3, append0.entries⟩) = .ok ⟨3, append0.entries⟩ ∧
      (only idle).atDoor ⟨0x13, appendBody ⟨3, append0.entries⟩⟩ ∧
      parsePosition (positionBody ⟨3, 61, 9999⟩) = .ok ⟨3, 61, 9999⟩ ∧
      (only idle).atDoor ⟨0x16, positionBody ⟨3, 61, 9999⟩⟩ ∧ (2 : Byte).toNat ≤ 2 := by decide +kernel

theorem test_meets_ClosedSlots_at_the_door :
    (only idle).atDoor ⟨0x14, playctlBody 3 .play⟩ ∧ (only idle).atDoor ⟨0x14, playctlBody 3 .pause⟩ ∧
      (only idle).atDoor ⟨0x14, playctlBody 3 .seek⟩ ∧ (only idle).atDoor ⟨0x14, playctlBody 3 .stop⟩ ∧
      (only idle).atDoor ⟨0x15, [3]⟩ ∧ (only idle).atDoor ⟨0x17, [3]⟩ ∧ (only idle).atDoor ⟨0x06, [1, 3, 2]⟩ := by decide

theorem test_meets_UnknownKindsAreAnswered :
    requestKinds.contains 0x20 = false ∧ (only idle).atDoor ⟨0x20, [1]⟩ ∧ 0x80 ≤ (0x80 : Byte).toNat ∧
      0x60 ≤ (0x64 : Byte).toNat ∧ (0x64 : Byte).toNat ≤ 0x64 := by decide

theorem test_meets_requests_without_a_slot :
    (only idle).atDoor ⟨0x01, [1]⟩ ∧ (only idle).atDoor ⟨0x02, [1]⟩ ∧ (only idle).atDoor ⟨0x02, [2]⟩ ∧
      (only idle).atDoor ⟨0x04, maskBody ⟨0xF, Vector.replicate 4 0x7FF⟩⟩ ∧ (only idle).atDoor ⟨0x05, []⟩ ∧
      (only idle).atDoor ⟨0x06, [2]⟩ := by decide +kernel

theorem test_meets_LimitsWritesItsEightValues :
    limitsRangesOk limits0 = true ∧ limitsRangesOk { limits0 with startEstimate := 64, protect := some 0 } = true ∧
      (only idle).atDoor ⟨0x03, limitsBody limits0⟩ ∧
      (only idle).atDoor ⟨0x03, limitsBody { limits0 with startEstimate := 64, protect := some 0 }⟩ := by decide +kernel

theorem test_meets_StreamViewReportsTheStream :
    ((only idle).stream 0).state ≠ .closed ∧ (only idle).atDoor ⟨0x06, [1, 0, 0]⟩ ∧ (only idle).atDoor ⟨0x06, [1, 0, 1]⟩ ∧
      (only idle).atDoor ⟨0x06, [1, 0, 2]⟩ := by decide

theorem test_meets_RecordViewReportsTheRecord :
    busy.atDoor ⟨0x06, [3, 5]⟩ ∧ busy.recordOf 5 = some record ∧ busy.recordOf 255 = none ∧ busy.atDoor ⟨0x06, [3, 255]⟩ := by
  decide +kernel

theorem test_meets_OpenTakesAClosedSlotToIdle :
    parseOpen [3, 1] = .ok ⟨3, openConfig 1 0 0 2000 4000 12000 20000 30000⟩ ∧
      (only idle).atDoor ⟨0x10, [3, 1]⟩ ∧ ((only idle).stream 3).state = .closed ∧
      (only idle).atDoor ⟨0x10, [0, 1]⟩ ∧ ((only idle).stream 0).state ≠ .closed := by decide +kernel

theorem test_meets_TuneWritesTheTuning :
    tuneRangesOk tune0 = true ∧ ((only laddered).stream 0).state ≠ .closed ∧ (only laddered).atDoor ⟨0x11, tuneBody tune0⟩ := by
  decide +kernel

theorem test_meets_LadderLoadsInIdle :
    parseLadder (ladderBody ⟨0, rungs⟩) = .ok ⟨0, rungs⟩ ∧ (only idle).atDoor ⟨0x12, ladderBody ⟨0, rungs⟩⟩ ∧
      ((only idle).stream 0).state = .idle ∧ ((only idle).stream 0).ladder = [] ∧
      (only playing).atDoor ⟨0x12, ladderBody ⟨0, rungs⟩⟩ ∧ ((only playing).stream 0).state ≠ .idle ∧
      ((only { laddered with window := [entry 1 .waiting] }).stream 0).window ≠ [] := by decide +kernel

theorem test_meets_AppendAddsItsEntriesOrNone :
    parseAppend (appendBody append0) = .ok append0 ∧ (only playing).atDoor ⟨0x13, appendBody append0⟩ ∧
      ((only playing).stream 0).window.length + append0.entries.length ≤ 16 ∧ ((only playing).stream 0).origin = some 12 ∧
      ((only ended).stream 0).lastAppended = true ∧ ((only idle).stream 0).origin = none ∧
      16 < ((only { playing with window := List.replicate 15 (entry 1 .waiting) }).stream 0).window.length +
        append0.entries.length := by decide +kernel

theorem test_meets_PlayStartsOrResumes :
    (only laddered).atDoor ⟨0x14, playctlBody 0 .play⟩ ∧ laddered.ladder ≠ [] ∧ laddered.buffer = [] ∧
      laddered.finalKnown = false ∧ paused.buffer ≠ [] ∧ { paused with buffer := [] }.window ≠ [] ∧
      (only paused).atDoor ⟨0x14, playctlBody 0 .play⟩ ∧ idle.ladder = [] ∧ idle.state = .idle ∧
      { paused with buffer := [], window := [], finalKnown := true }.state = .paused := by decide +kernel

theorem test_meets_PauseSuspendsTheStream :
    (only playing).atDoor ⟨0x14, playctlBody 0 .pause⟩ ∧ playing.state = .playing ∧ starting.state = .starting ∧
      rebuffering.state = .rebuffering ∧ paused.state = .paused ∧ idle.state = .idle ∧ ended.state = .ended := by decide

theorem test_meets_SeekRestartsFromAnEmptyPosition :
    probing.sound ∧ probing.atDoor ⟨0x14, playctlBody 0 .seek⟩ ∧ (probing.stream 0).state ≠ .idle ∧
      (only ended).sound ∧ (only ended).atDoor ⟨0x14, playctlBody 0 .seek⟩ ∧ ((only ended).stream 0).state = .ended :=
  ⟨probing_sound, by decide, by decide, ended_sound, by decide, by decide⟩

theorem test_meets_StopReturnsToIdle :
    probing.sound ∧ probing.atDoor ⟨0x14, playctlBody 0 .stop⟩ ∧ (probing.stream 0).state ≠ .idle ∧
      (only ended).sound ∧ (only ended).atDoor ⟨0x14, playctlBody 0 .stop⟩ :=
  ⟨probing_sound, by decide, by decide, ended_sound, by decide⟩

theorem test_meets_CloseReleasesTheSlot :
    probing.sound ∧ probing.atDoor ⟨0x15, [byte (0 : Slot).val]⟩ ∧ (probing.stream 0).active = true ∧
      (only ended).sound ∧ (only ended).atDoor ⟨0x15, [byte (0 : Slot).val]⟩ ∧ ((only ended).stream 0).active = false :=
  ⟨probing_sound, by decide, by decide, ended_sound, by decide, by decide⟩

theorem test_meets_PositionResynchronisesTheQueue :
    (only playing).atDoor ⟨0x16, positionBody ⟨0, 10, 1999⟩⟩ ∧ playing.buffer = [] ++ ⟨10, 1, 2000, 2000⟩ :: [] ∧
      1999 < (⟨10, 1, 2000, 2000⟩ : BufferEntry).duration ∧ (∀ b ∈ playing.buffer, b.segment ≠ 11) ∧
      (only idle).atDoor ⟨0x16, positionBody ⟨0, 10, 9999⟩⟩ := by decide +kernel

theorem test_meets_ProbeMakesAProbePending :
    (only playing).atDoor ⟨0x17, [byte (0 : Slot).val]⟩ ∧ ¬(playing.probePending = true ∨ playing.probeLive = true) ∧
      ¬(playing.state ≠ .playing ∨ (only playing).cls.zone = .jammed ∨ playing.current = playing.ladder.length - 1) ∧
      (probing.stream 0).probeLive = true ∧ paused.state ≠ .playing := by decide +kernel

theorem test_meets_TallyCountsProgress :
    busy.recordOf 5 = some record ∧ record.announcePending = false ∧ record.reported ≤ 1000 ∧
      busy.atDoor ⟨0x18, countBody ⟨5, 1000⟩⟩ := by decide +kernel

theorem test_meets_ReportsThatFindNoRecordChangeNothing :
    busy.recordOf 0 = none ∧ busy.atDoor ⟨0x18, countBody ⟨0, 0⟩⟩ ∧ busy.atDoor ⟨0x19, countBody ⟨5, 999⟩⟩ ∧
      busy.recordOf 5 = some record ∧ 999 < record.reported ∧ busy.atDoor ⟨0x1A, brokenBody 0 4⟩ ∧
      busy.atDoor ⟨0x1A, brokenBody 5 5⟩ ∧ { record with announcePending := true }.announcePending = true := by
  decide +kernel

theorem test_meets_LandedMovesTheSegmentIn :
    busy.recordOf 5 = some record ∧ record.reported ≤ 5000 ∧ busy.atDoor ⟨0x19, countBody ⟨5, 5000⟩⟩ ∧
      headNotLanded [entry 12 .waiting] ∧
      ((busy.stream 0).window.map fun e => if e.segment = record.segment then { e with state := .landedEarly 1 5000 } else e) =
        [(entry 11 .waiting, 1, 5000)].map landedEntry ++ [entry 12 .waiting] ∧
      probing.recordOf 6 = some probeRecord ∧ probing.atDoor ⟨0x19, countBody ⟨6, 5000⟩⟩ := by
  refine ⟨by decide +kernel, by decide, by decide +kernel, ?_, by decide +kernel, by decide +kernel, by decide +kernel⟩
  intro e rung bytes h
  cases Option.some.inj h
  exact EntryState.noConfusion

theorem test_meets_BrokenFailsTheFetch :
    busy.recordOf 5 = some record ∧ record.kind ≠ .probe ∧ busy.atDoor ⟨0x1A, brokenBody 5 1⟩ ∧
      probing.recordOf 6 = some probeRecord ∧ probeRecord.kind = .probe ∧ probing.atDoor ⟨0x1A, brokenBody 6 4⟩ := by
  decide +kernel

theorem test_meets_LinkMovesTrimAndZone :
    busy.atDoor ⟨0x1B, linkBody ⟨151, 299, 84⟩⟩ ∧ busy.cls.zone ≠ .jammed ∧
      ¬(busy.cls.retry.jammed ≤ 299 ∨ busy.cls.airtime.jammed ≤ 84) ∧ busy.cls.retry.crowded ≤ 299 := by decide +kernel

theorem test_meets_LinkIntoJammedClampsAndDrops :
    probing.poolSound ∧ probing.atDoor ⟨0x1B, linkBody ⟨5000, 300, 0⟩⟩ ∧ probing.cls.zone ≠ .jammed ∧
      probing.cls.retry.jammed ≤ 300 ∧ probeRecord ∈ probing.pool.records ∧ probeRecord.kind = .probe ∧
      (busy.pool.records.filter fun x => x.kind = .probe) = [] :=
  ⟨probing_pool, by decide +kernel, by decide, by decide, by decide +kernel, rfl, by decide +kernel⟩

theorem test_meets_StreamTimersExpire :
    (only starting).phase = .running ∧ starting.startTimer = some 10000 ∧ starting.buffer = [] ∧
      { starting with buffer := playing.buffer }.buffer ≠ [] ∧ playing.startTimer = none ∧
      rebuffering.stallTimer = some 8000 ∧ rebuffering.ladder ≠ [] ∧ playing.stepTimer = none ∧
      { playing with ceiling := 2, stepTimer := some 2000 }.stepTimer = some 2000 ∧
      { only playing with cls := { Classifier.reset with zone := .crowded } }.cls.zone = .crowded ∧
      (let st := { playing with
        ceiling := 2, stepTimer := some 2000, cfg := { cfg with autoProbe := true }, buffer := [⟨10, 1, 12000, 12000⟩] }
      st.cfg.autoProbe = true ∧ st.state = .playing ∧ st.probePending = false ∧ st.probeLive = false ∧
        st.current < st.ladder.length - 1 ∧ st.cfg.target ≤ st.occupancy) := by decide +kernel

theorem test_meets_DrainStepDrainsTheBuffer :
    busy.sound ∧ (busy.stream 0).drainTimer = some 10 ∧ (busy.stream 0).buffer = [] ++ ⟨10, 1, 2000, 2000⟩ :: [] ∧
      (lastOne 10 true).sound ∧ ((lastOne 10 true).stream 0).occupancy = 2560 / 256 ∧
      (lastOne 4 true).sound ∧ ((lastOne 4 true).stream 0).occupancy < 2560 / 256 ∧
      (lastOne 0 false).sound ∧ ((lastOne 0 false).stream 0).finalKnown = false ∧ (busy.stream 1).drainTimer = none ∧
      busy.normalRecord 0 = some record ∧ record.reported < (300000 + record.init.getD 0) / 2 :=
  ⟨busy_sound, by decide, by decide, lastOne_sound.2.1, by decide, lastOne_sound.1, by decide, lastOne_sound.2.2, by decide,
    by decide, by decide +kernel, by decide⟩

theorem test_meets_DeadlinesEndTheirRecords :
    busy.phase = .running ∧ busy.recordOf 5 = some record ∧ record.kind ≠ .probe ∧ busy.recordOf 6 = none ∧
      probing.recordOf 6 = some probeRecord ∧ probeRecord.kind = .probe := by decide +kernel

theorem test_meets_LinkTimersExpire :
    busy.phase = .running ∧ busy.cls.dwellTimer = none ∧
      { busy with cls := { busy.cls with zone := .jammed, dwellTimer := some 3000 } }.cls.dwellTimer = some 3000 := by decide

theorem test_meets_WindowChangeReevaluatesTheStream :
    { starting with buffer := [⟨10, 1, 4000, 4000⟩] }.cfg.start ≤ 4000 ∧
      { rebuffering with buffer := [⟨10, 1, 2000, 2000⟩] }.cfg.resume ≤ 2000 ∧ idle.state ≠ .starting ∧
      idle.state ≠ .rebuffering := by decide

theorem test_meets_DropsFailuresAndSkips :
    (busy.stream 0).window = [] ++ entry 11 (.inFlight 1) :: [entry 12 .waiting] ∧
      (∀ x ∈ [] ++ [entry 12 .waiting], x.segment ≠ (entry 11 (.inFlight 1)).segment) ∧
      (entry 11 (.inFlight 1)).failures < 2 ∧ 2 ≤ { entry 11 (.inFlight 1) with failures := 2 }.failures ∧
      [] ++ [entry 12 .waiting] = ([] : List (WindowEntry × Nat × Nat)).map landedEntry ++ [entry 12 .waiting] := by
  decide +kernel

theorem test_meets_GrantMakesItsRecordAndFetch : busy.poolSound := busy_pool

theorem test_meets_DecisionLimitsTheRung :
    playing.rescuePending = false ∧ { playing with rescuePending := true }.rescuePending = true := by decide

theorem test_meets_FallsAndProbeOutcomesMoveTheCeiling : idle.ladder = [] ∧ playing.ladder ≠ [] := by decide

theorem test_meets_FlagsCallTheHostAndGatesReplace :
    let q := [TxFrame.note, .gate 0 true .start, .note]
    q = [.note] ++ .gate 0 true .start :: [.note] ∧ [TxFrame.note].all (fun f => !f.isGateOf 0) = true ∧
      q.all (fun f => !f.isGateOf 1) = true := by decide

theorem test_meets_AllocationSharesByWeight :
    (∀ n, (busy.stream n).cfg.priority ≤ 3) ∧ (busy.stream 0).active = true ∧ (busy.stream 1).active = false ∧
      2700 * 4 / 4 < (busy.stream 0).rate 3 ∧ { busy with sharing := { busy.sharing with protect := some 1 } }.sharing.protect =
        some (busy.stream 0).cfg.priority := by decide +kernel

theorem test_meets_GrantsGoToTheMostUrgentStream :
    (only { playing with window := [entry 12 .waiting] }).normalEligible 0 = true ∧
      (fetching { playing with probePending := true } [record]).probeEligible 0 = true ∧
      busy.normalRecord 0 = some record ∧ record.segment < 12 := by decide +kernel

theorem test_meets_ArbitrationGrantsAllItCan :
    busy.arb.slotLimit ≤ 8 ∧ { busy with arb := { busy.arb with slotLimit := 1 } }.arb.slotLimit ≤ busy.pool.records.length ∧
      ({ playing with window := [] }).dryArmed = true := by decide

/-- A sound state that steps, for the invariants. -/
theorem test_meets_the_invariants :
    busy.sound ∧ busy.rungsSound ∧ (State.reset.controlled ∧ State.reset.capacityCurrent) ∧ busy.queueSound ∧
      (∃ t, step busy = .next t) ∧ ∃ t, step State.reset = .next t :=
  ⟨busy_sound, by unfold State.rungsSound; decide +kernel,
    ⟨by unfold State.controlled Stream.controlled; decide +kernel, by unfold State.capacityCurrent; decide +kernel⟩,
    ⟨busy_pool, by decide +kernel, by decide +kernel, by decide +kernel⟩, ⟨_, rfl⟩, ⟨_, rfl⟩⟩

end Sys2Proof.Tests
end

section
namespace Sys2Proof.Machine

/-! ## The stream controller: what every operation keeps (O55) -/

/-- What `Stream.controlled` says, the share of an inactive stream apart: a stream may stand so until the allocation that
its change of activity calls for has run (R124). -/
def Stream.controlledButShare (st : Stream) : Prop :=
  (st.gate = true ↔ st.state = .playing) ∧ (st.drainTimer.isSome = true ↔ st.state = .playing) ∧
  (st.startTimer.isSome = true → st.state = .starting) ∧ (st.stallTimer.isSome = true → st.state = .rebuffering) ∧
  (st.overdue = true → st.state = .starting) ∧ (st.probePending = true → st.state = .playing) ∧
  (st.state ≠ .closed → st.state ≠ .idle → st.ladder ≠ []) ∧
  (st.state ≠ .closed → st.cfg.resume ≤ st.cfg.start ∧ st.cfg.start ≤ st.cfg.target ∧ st.cfg.target ≤ st.cfg.refill ∧
    st.cfg.refill < st.cfg.high)

theorem Stream.controlled_iff (st : Stream) :
    st.controlled ↔ st.controlledButShare ∧ (st.active = false → st.share = 0) :=
  ⟨fun ⟨gate, drain, start, stall, overdue, probe, ladder, share, marks⟩ =>
    ⟨⟨gate, drain, start, stall, overdue, probe, ladder, marks⟩, share⟩,
   fun ⟨⟨gate, drain, start, stall, overdue, probe, ladder, marks⟩, share⟩ =>
    ⟨gate, drain, start, stall, overdue, probe, ladder, share, marks⟩⟩

theorem Stream.controlled.butShare {st : Stream} (h : st.controlled) : st.controlledButShare :=
  (st.controlled_iff.mp h).1

theorem Stream.controlled.share_of_inactive {st : Stream} (h : st.controlled) (ha : st.active = false) : st.share = 0 :=
  (st.controlled_iff.mp h).2 ha

/-- What the stream controller's invariant reads of a stream. -/
def Stream.control (st : Stream) :
    PlayState × Bool × Bool × Option Nat × Option Nat × Bool × Bool × List Rung × Nat × SlotConfig :=
  (st.state, st.gate, st.drainTimer.isSome, st.startTimer, st.stallTimer, st.overdue, st.probePending, st.ladder, st.share,
    st.cfg)

theorem Stream.controlled.of_control {a b : Stream} (h : a.controlled) (e : b.control = a.control) : b.controlled := by
  simp only [Stream.control, Prod.mk.injEq] at e
  obtain ⟨state, gate, drain, start, stall, overdue, probe, ladder, share, cfg⟩ := e
  unfold Stream.controlled Stream.active at h ⊢
  rwa [state, gate, drain, start, stall, overdue, probe, ladder, share, cfg]

/-- A pending probe may be cancelled in any state (R150). -/
theorem Stream.controlled.cancelled {st : Stream} (h : st.controlled) :
    ({ st with probePending := false } : Stream).controlled := by
  obtain ⟨gate, drain, start, stall, overdue, -, rest⟩ := h
  exact ⟨gate, drain, start, stall, overdue, nofun, rest⟩

variable {s t : State} (n : Slot)

theorem State.controlled.of_streams (h : s.controlled) (e : ∀ m, t.stream m = s.stream m) : t.controlled := fun m => by
  rw [e m]; exact h m

theorem State.controlled.setStream (h : s.controlled) {st : Stream} (hst : st.controlled) :
    (s.setStream n st).controlled := fun m => by
  rw [State.stream_setStream]; split
  · exact hst
  · exact h m

theorem State.controlled.modStream (h : s.controlled) {f : Stream → Stream}
    (hf : ∀ st, (f st).control = st.control) : (s.modStream n f).controlled :=
  h.setStream n ((h n).of_control (hf _))

/-- The same for a change that cancels a pending probe. -/
theorem State.controlled.modStream_cancels (h : s.controlled) {f : Stream → Stream}
    (hf : ∀ st, (f st).control = ({ st with probePending := false } : Stream).control) : (s.modStream n f).controlled :=
  h.setStream n ((h n).cancelled.of_control (hf _))

theorem State.controlled.forSlots {act : Slot → State → State} (h : s.controlled)
    (ha : ∀ m u, u.controlled → (act m u).controlled) : (s.forSlots act).controlled :=
  State.forSlots_rel (R := fun s t => s.controlled → t.controlled) (fun a b => b ∘ a) ha s h

theorem State.controlled.setQueue (h : s.controlled) (q : List TxFrame) : (s.setQueue q).controlled := h.of_streams fun _ => rfl

theorem State.controlled.pushTx (h : s.controlled) (x : TxFrame) : (s.pushTx x).controlled := h.of_streams fun _ => rfl

theorem State.controlled.reply (h : s.controlled) (k : Byte) (e : Status) (fs : List Byte) : (s.reply k e fs).controlled :=
  h.of_streams fun _ => rfl

theorem State.controlled.setRecords (h : s.controlled) (rs : List Record) : (s.setRecords rs).controlled :=
  h.of_streams fun _ => rfl

theorem State.controlled.noteIfTurned (h : s.controlled) (b : State) : (s.noteIfTurned b).controlled :=
  h.of_streams fun m => s.noteIfTurned_stream m b

theorem State.controlled.reach (h : s.controlled) (e : Nat) : (s.reach e).controlled := h.of_streams fun m => s.reach_stream m e

theorem State.controlled.raise (h : s.controlled) (f : StreamFlag) : (s.raise n f).controlled := fun m => by
  rw [State.raise_stream]; split
  · exact (h m).of_control rfl
  · exact h m

theorem State.controlled.raiseIf (h : s.controlled) (c : Bool) (f : StreamFlag) : (s.raiseIf c n f).controlled := by
  unfold State.raiseIf; split
  · exact h.raise n f
  · exact h

theorem State.controlled.raiseDevice (h : s.controlled) (f : DeviceFlag) : (s.raiseDevice f).controlled :=
  h.of_streams fun m => s.raiseDevice_stream m f

theorem State.controlled.raiseDeviceIf (h : s.controlled) (c : Bool) (f : DeviceFlag) : (s.raiseDeviceIf c f).controlled := by
  unfold State.raiseDeviceIf; split
  · exact h.raiseDevice f
  · exact h

theorem State.controlled.reevaluate (h : s.controlled) : (s.reevaluate n).controlled :=
  (h.modStream n (fun _ => by rfl)).raiseIf n _ _

/-- Entry to PLAYING (R14) from any state of an active stream. -/
theorem State.controlled.enterPlaying (h : s.controlled) (ha : (s.stream n).active = true) (r : GateReason) :
    (s.enterPlaying n r).controlled := by
  refine State.controlled.of_streams (h.setStream n ?_) fun m => State.pushGate_stream _ _ _ _ _
  have old := h n
  unfold Stream.controlled at old ⊢
  unfold Stream.active at ha ⊢
  cases hs : (s.stream n).state <;> simp_all

/-- A ready stream is in STARTING or REBUFFERING (R14). -/
theorem Stream.state_of_ready {st : Stream} (h : st.ready = true) : st.state = .starting ∨ st.state = .rebuffering := by
  unfold Stream.ready at h
  cases hs : st.state <;> simp_all

theorem Stream.active_of_ready {st : Stream} (h : st.ready = true) : st.active = true := by
  unfold Stream.active
  rcases Stream.state_of_ready h with hs | hs <;> rw [hs]

theorem State.controlled.readinessTest (h : s.controlled) : (s.readinessTest n).controlled := by
  unfold State.readinessTest; split
  · rename_i ready; exact h.enterPlaying n (Stream.active_of_ready ready) _
  · exact h

theorem State.controlled.windowChanged (h : s.controlled) : (s.windowChanged n).controlled :=
  (h.reevaluate n).readinessTest n

theorem State.controlled.contiguousMove (h : s.controlled) : (s.contiguousMove n).controlled :=
  (h.modStream n (fun _ => by rfl)).windowChanged n

theorem State.controlled.returnEntry (h : s.controlled) (seg : Nat) : (s.returnEntry n seg).controlled :=
  h.modStream n (fun _ => by rfl)

theorem State.controlled.landEntry (h : s.controlled) (seg rung bytes : Nat) : (s.landEntry n seg rung bytes).controlled :=
  h.modStream n (fun _ => by rfl)

theorem State.controlled.skipEntry (h : s.controlled) (e : WindowEntry) : (s.skipEntry n e).controlled :=
  (((h.modStream n (fun _ => by rfl)).raise n _).modStream n
    (fun _ => by rfl)).contiguousMove n

theorem State.controlled.failEntry (h : s.controlled) (seg : Nat) : (s.failEntry n seg).controlled := by
  unfold State.failEntry; split
  · exact h
  · split
    · exact (h.modStream n (fun _ => by rfl)).windowChanged n
    · exact h.skipEntry n _

theorem State.controlled.fall (h : s.controlled) (named : Nat) : (s.fall n named).controlled := by
  by_cases ladder : (s.stream n).hasLadder = true
  · refine h.setStream n ((h n).cancelled.of_control ?_)
    dsimp only
    rw [if_pos ladder]; rfl
  · refine h.setStream n ?_
    dsimp only
    rw [if_neg ladder]; exact h n

theorem State.controlled.probeFailure (h : s.controlled) : (s.probeFailure n).controlled :=
  ((h.fall n _).raise n _).modStream n (fun _ => by rfl)

theorem State.controlled.probeSuccess (h : s.controlled) (r : Nat) : (s.probeSuccess n r).controlled :=
  (((h.modStream n (fun _ => by rfl)).raiseIf n _ _).raise n _).modStream n
    (fun _ => by rfl)

theorem State.controlled.dropRecord (h : s.controlled) (r : Record) (d : DropReason) : (s.dropRecord r d).controlled := by
  unfold State.dropRecord; dsimp only; split
  · exact ((h.setRecords _).setQueue _).modStream r.slot (fun _ => by rfl)
  · exact (h.setRecords _).pushTx _

theorem State.controlled.dropToWaiting (h : s.controlled) (r : Record) (d : DropReason) :
    (s.dropToWaiting r d).controlled :=
  ((h.dropRecord r d).returnEntry _ _).windowChanged _

theorem State.controlled.failProbe (h : s.controlled) (r : Record) (d : DropReason) : (s.failProbe r d).controlled :=
  (h.dropToWaiting r d).probeFailure _

theorem State.controlled.dropFor (h : s.controlled) (d : DropReason) (r : Option Record) : (s.dropFor n d r).controlled := by
  cases r with
  | none => exact h
  | some r => exact (h.dropRecord r d).returnEntry n _

theorem State.controlled.dropStream (h : s.controlled) (d : DropReason) : (s.dropStream n d).controlled :=
  (h.dropFor n d _).dropFor n d _

/-! ### Grants and arbitration -/

theorem State.controlled.takeDecision (h : s.controlled) (r : Nat) : (s.takeDecision n r).controlled :=
  (h.modStream n (fun _ => by rfl)).raiseIf n _ _

theorem State.controlled.makeRecord (h : s.controlled) (e : WindowEntry) (k : FetchKind) (rung : Nat) :
    (s.makeRecord n e k rung).controlled := fun m => by
  rw [State.makeRecord_stream]; split
  · exact (h m).of_control rfl
  · exact h m

theorem State.controlled.grantNormal (h : s.controlled) : (s.grantNormal n).controlled := by
  unfold State.grantNormal; split
  · exact h
  · exact State.controlled.windowChanged n (((h.takeDecision n _).makeRecord n _ _ _).of_streams fun _ => rfl)

theorem State.controlled.grantProbe (h : s.controlled) : (s.grantProbe n).controlled := by
  unfold State.grantProbe; split
  · exact h
  · refine State.controlled.windowChanged n (State.controlled.of_streams (State.controlled.makeRecord n ?_ _ _ _) fun _ => rfl)
    exact h.modStream_cancels n fun _ => by rfl

theorem State.controlled.grants (k : Nat) : ∀ {s : State}, s.controlled → (State.grants k s).controlled := by
  induction k with
  | zero => exact id
  | succ k ih =>
    intro s h
    unfold State.grants; split
    · split
      · exact ih (h.grantNormal _)
      · exact ih (h.grantProbe _)
      · exact h
    · exact h

theorem State.controlled.dryTest (h : s.controlled) : (s.dryTest n).controlled := by
  unfold State.dryTest; split
  · exact (h.raise n _).modStream n (fun _ => by rfl)
  · exact h

theorem State.controlled.arbitrate (h : s.controlled) : s.arbitrate.controlled :=
  State.controlled.grants 8 (h.forSlots fun m _ hu => hu.dryTest m)

theorem State.controlled.settle (h : s.controlled) (b : State) : (s.settle b).controlled := by
  unfold State.settle; split
  · exact h.arbitrate
  · exact h

/-! ### The allocation gives inactive streams nothing (R120) -/

theorem State.mem_guardOrder {m : Slot} (h : m ∈ s.guardOrder) : (s.stream m).active = true := by
  simp only [State.guardOrder, List.mem_flatMap, List.mem_filter, Bool.and_eq_true] at h
  obtain ⟨_, _, _, active, _⟩ := h
  exact active

theorem State.guardPass_slots (s : State) (ns : List Slot) : ∀ r, (s.guardPass r ns).2.map Claim.slot = ns := by
  induction ns with
  | nil => intro r; rfl
  | cons n ns ih => intro r; simp [State.guardPass, ih]

theorem fillRounds_slots (k : Nat) : ∀ r cs, (fillRounds k r cs).map Claim.slot = cs.map Claim.slot := by
  induction k with
  | zero => intro r cs; rfl
  | succ k ih =>
    intro r cs
    have taken : ∀ w, (cs.map fun c => c.take r w).map Claim.slot = cs.map Claim.slot := fun w => by
      simp only [List.map_map]; rfl
    unfold fillRounds
    dsimp only
    split
    · rfl
    · split
      · rw [ih, taken]
      · exact taken _

theorem State.allocation_slots (s : State) (u : Nat) : (s.allocation u).map Claim.slot = s.guardOrder := by
  unfold State.allocation
  dsimp only
  rw [fillRounds_slots, State.guardPass_slots]

theorem State.shareIn_of_inactive {m : Slot} (h : (s.stream m).active = false) (u : Nat) :
    shareIn (s.allocation u) m = 0 := by
  have none : (s.allocation u).filter (fun c => c.slot == m) = [] := by
    rw [List.filter_eq_nil_iff]
    intro c hc hm
    have mem : c.slot ∈ s.guardOrder := s.allocation_slots u ▸ List.mem_map_of_mem hc
    have := State.mem_guardOrder mem
    rw [beq_iff_eq.mp hm, h] at this
    cases this
  rw [shareIn, none]; rfl

/-- The allocation re-run puts every share right. -/
theorem State.reallocate_controlled (h : ∀ m, (s.stream m).controlledButShare) : s.reallocate.controlled := fun m => by
  rw [State.reallocate_stream]
  exact (Stream.controlled_iff _).mpr ⟨h m, fun inactive => State.shareIn_of_inactive inactive _⟩

theorem State.controlled.reallocate (h : s.controlled) : s.reallocate.controlled :=
  State.reallocate_controlled fun m => (h m).butShare

theorem State.controlled.recomputeUsable (h : s.controlled) : s.recomputeUsable.controlled :=
  State.controlled.reallocate (h.of_streams fun _ => rfl)

theorem State.SameElsewhere.controlled (e : s.SameElsewhere n t) (h : s.controlled) (hn : (t.stream n).controlled) :
    t.controlled := fun m => by
  by_cases m_eq : m = n
  · subst m_eq; exact hn
  · rw [e m m_eq]; exact h m

/-- The allocation re-run where a stream changed while active; where it was not active its share was 0 and stays so. -/
theorem State.SameElsewhere.reallocateIf_controlled (e : s.SameElsewhere n t) (h : s.controlled)
    (hn : (t.stream n).controlledButShare) {c : Bool} (hc : c = false → (t.stream n).active = false → (t.stream n).share = 0) :
    (t.reallocateIf c).controlled := by
  cases c with
  | true =>
    refine State.reallocate_controlled fun m => ?_
    by_cases m_eq : m = n
    · subst m_eq; exact hn
    · rw [e m m_eq]; exact (h m).butShare
  | false => exact e.controlled n h ((Stream.controlled_iff _).mpr ⟨hn, hc rfl⟩)

end Sys2Proof.Machine
end

section
namespace Sys2Proof.Machine

/-! ## Requests: what the checks establish, and what a request row can do -/

variable {s t : State} (n : Slot)

/-- The outcomes of taking a request (R160): the part is not running, the frame waits, or it is taken and acted on with fewer
than 32 frames queued. -/
theorem State.takeRequest_keeps {P : State → Prop} {f : Frame} {act : State → State} (h : P s) (waits : P (s.offer f))
    (taken : (s.offer f).tx.queue.length < 32 → P (act (s.offer f).popFrame)) : P (s.takeRequest f act) := by
  unfold State.takeRequest State.whenRunning
  split
  · dsimp only
    split
    · rename_i can
      exact taken (of_decide_eq_true can).2
    · exact waits
  · exact h

/-- The outcomes of a request row (R160, R161): as for taking it, and then a refusal or its act. -/
theorem State.request_keeps {P : State → Prop} {α : Type} {kind : Byte} {body : List Byte}
    {check : State → Except Status α} {act : α → State → State} (h : P s) (waits : P (s.offer ⟨kind, body⟩))
    (refused : (s.offer ⟨kind, body⟩).tx.queue.length < 32 → ∀ e, P ((s.offer ⟨kind, body⟩).popFrame.reply kind e []))
    (accepted : (s.offer ⟨kind, body⟩).tx.queue.length < 32 → ∀ a, check (s.offer ⟨kind, body⟩).popFrame = .ok a →
      P (act a (s.offer ⟨kind, body⟩).popFrame)) : P (s.request kind body check act) := by
  refine State.takeRequest_keeps h waits fun len => ?_
  unfold State.answer
  split
  · exact refused len _
  · rename_i passed; exact accepted len _ passed

/-- The outcomes of a row that shares its kind: nothing for another row's frame (log entry 3), else those of a request row. -/
theorem State.requestIf_keeps {P : State → Prop} {α : Type} {own : Bool} {kind : Byte} {body : List Byte}
    {check : State → Except Status α} {act : α → State → State} (h : P s)
    (request : own = true → P (s.request kind body check act)) : P (s.requestIf own kind body check act) := by
  unfold State.requestIf; split
  · rename_i o; exact request o
  · exact h

theorem State.frameComplete_stream (s : State) (f : Frame) (m : Slot) : (s.frameComplete f).stream m = s.stream m := by
  unfold State.frameComplete; split
  · rfl
  · exact s.raiseDevice_stream m _

theorem State.offer_stream (s : State) (f : Frame) (m : Slot) : (s.offer f).stream m = s.stream m := by
  unfold State.offer; split
  · rfl
  · split
    · exact s.frameComplete_stream f m
    · rfl

/-! ### What the checks of a request establish -/

theorem State.isOpen_of_openStream {α : Type} {read : Except Status α} {slot : α → Slot} {a : α}
    (h : s.openStream read slot = .ok a) : read = .ok a ∧ (s.stream (slot a)).isOpen = true := by
  unfold State.openStream at h
  split at h
  · cases h
  · split at h
    · rename_i opened; cases h; exact ⟨rfl, opened⟩
    · cases h

theorem State.allowed_of_checkPlayctl {body : List Byte} {allowed : Stream → Bool} {r : PlayctlReq}
    (h : s.checkPlayctl body allowed = .ok r) : allowed (s.stream r.slot) = true := by
  unfold State.checkPlayctl at h
  split at h
  · cases h
  · split at h
    · rename_i _ _ _ ok; cases h; exact ok
    · cases h

theorem openRangesOk_of_parseOpen {body : List Byte} {r : OpenReq} (h : parseOpen body = .ok r) :
    r.cfg = openFields body ∧ openRangesOk r.cfg = true := by
  unfold parseOpen at h
  split at h
  · split at h
    · cases h
    · split at h
      · rename_i ok; cases h; exact ⟨rfl, ok⟩
      · cases h
  · cases h

theorem State.parse_of_checkOpen {body : List Byte} {r : OpenReq} (h : s.checkOpen body = .ok r) :
    parseOpen body = .ok r ∧ (s.stream r.slot).isOpen = false := by
  unfold State.checkOpen at h
  split at h
  · cases h
  · split at h
    · cases h
    · rename_i parsed closed; cases h; exact ⟨parsed, by simpa using closed⟩

theorem State.idle_of_checkLadder {body : List Byte} {r : LadderReq} (h : s.checkLadder body = .ok r) :
    (s.stream r.slot).state = .idle := by
  unfold State.checkLadder at h
  split at h
  · cases h
  · dsimp only at h
    split at h
    · rename_i ok; cases h; exact ok.1
    · cases h

theorem State.playing_of_checkProbe {body : List Byte} {m : Slot} (h : s.checkProbe body = .ok m) :
    (s.stream m).state = .playing := by
  unfold State.checkProbe at h
  split at h
  · cases h
  · dsimp only at h
    split at h
    · cases h
    · split at h
      · cases h
      · rename_i ok; cases h; simp only [not_or, not_not] at ok; exact ok.1

/-! ## Every command keeps the streams controlled (R9, R22) -/

theorem State.controlled.popFrame (h : s.controlled) : s.popFrame.controlled := h.of_streams fun _ => rfl

theorem State.controlled.offer (h : s.controlled) (f : Frame) : (s.offer f).controlled := h.of_streams (s.offer_stream f)

theorem State.controlled.takeRequest (h : s.controlled) {f : Frame} {act : State → State}
    (ha : ∀ u : State, u.controlled → (act u).controlled) : (s.takeRequest f act).controlled :=
  State.takeRequest_keeps h (h.offer f) fun _ => ha _ (h.offer f).popFrame

theorem State.controlled.request (h : s.controlled) {α : Type} {kind : Byte} {body : List Byte}
    {check : State → Except Status α} {act : α → State → State}
    (ha : ∀ a (u : State), u.controlled → check u = .ok a → (act a u).controlled) :
    (s.request kind body check act).controlled :=
  State.request_keeps h (h.offer _) (fun _ e => (h.offer _).popFrame.reply kind e [])
    fun _ a passed => ha a _ (h.offer _).popFrame passed

theorem State.controlled.requestIf (h : s.controlled) {α : Type} {own : Bool} {kind : Byte} {body : List Byte}
    {check : State → Except Status α} {act : α → State → State}
    (ha : ∀ a (u : State), u.controlled → check u = .ok a → (act a u).controlled) :
    (s.requestIf own kind body check act).controlled :=
  State.requestIf_keeps h fun _ => h.request ha

theorem State.controlled.whenRunning (h : s.controlled) {act : State → State} (ha : (act s).controlled) :
    (s.whenRunning act).controlled := by
  unfold State.whenRunning; split
  · exact ha
  · exact h

theorem State.controlled.atExpiry (h : s.controlled) {timer : Option Nat} {act : State → State}
    (ha : ∀ e, timer = some e → (act (s.reach e)).controlled) : (s.atExpiry timer act).controlled := by
  unfold State.atExpiry; split
  · exact ha _ rfl
  · exact h

/-! ### The line -/

theorem State.controlled.receiverTo (h : s.controlled) (r : Receiver) : (s.receiverTo r).controlled := h.of_streams fun _ => rfl

theorem State.controlled.receiveFault (h : s.controlled) : s.receiveFault.controlled := (h.receiverTo _).raiseDevice _

theorem State.controlled.frameComplete (h : s.controlled) (f : Frame) : (s.frameComplete f).controlled :=
  h.of_streams (s.frameComplete_stream f)

theorem State.controlled.takeByte (h : s.controlled) (b : Byte) : (s.takeByte b).controlled := by
  unfold State.takeByte; split
  · split
    · exact h.receiverTo _
    · exact h
  · split
    · exact h.receiverTo _
    · exact h.receiveFault
  · split <;> exact h.receiverTo _
  · split
    · exact h.receiveFault
    · split
      · exact (h.receiverTo _).frameComplete _
      · exact h.receiveFault

theorem State.controlled.receiveByte (h : s.controlled) (b : Byte) (low : Bool) : (s.receiveByte b low).controlled := by
  unfold State.receiveByte; split
  · split
    · exact h
    · exact h.receiveFault
  · exact h.takeByte b

theorem State.announce_stream (s : State) (f : TxFrame) (m : Slot) : (s.announce f).stream m = s.stream m := by
  cases f <;> rfl

theorem State.controlled.startFrame (h : s.controlled) (f : TxFrame) (q : List TxFrame) : (s.startFrame f q).controlled := by
  have announced := h.of_streams fun m => State.announce_stream
    { s with tx := { queue := q, sending := some ⟨f.line s.groupField, 5 * (f.line s.groupField).length⟩ } } f m
  unfold State.startFrame; dsimp only; split
  · exact announced.arbitrate
  · exact announced

theorem State.controlled.transmitStart (h : s.controlled) : ∀ t, execTransmitStart s = .next t → t.controlled := by
  rintro _ ⟨⟩
  refine h.whenRunning ?_
  split
  · exact h.startFrame _ _
  · exact h
  · exact h

/-! ### RESTART, LIMITS, MASK and FLAGS -/

theorem Stream.closed_controlled (m : BitVec 11) (fl : BitVec 11) :
    ({ Stream.closed with flags := fl, mask := m } : Stream).controlled := by
  simp [Stream.controlled, Stream.closed, Stream.active]

theorem State.reset_controlled : State.reset.controlled := fun m => by
  fin_cases m <;> exact Stream.closed_controlled _ _

theorem State.closeAll_stream (s : State) (m : Slot) : s.closeAll.stream m = (s.stream m).restarted :=
  State.forSlots_stream _ (fun _ => Stream.restarted) (fun n t m => by rw [State.stream_modStream]) _ m

theorem State.closeAll_controlled (s : State) : s.closeAll.controlled := fun m => by
  rw [State.closeAll_stream]; exact Stream.closed_controlled _ _

theorem State.resetLink_stream (s : State) (m : Slot) : s.resetLink.stream m = Stream.closed :=
  State.forSlots_stream (fun n u => u.setStream n Stream.closed) (fun _ _ => Stream.closed)
    (fun n t m => by rw [State.stream_setStream]) _ m

theorem State.resetLink_controlled (s : State) : s.resetLink.controlled := fun m => by
  rw [State.resetLink_stream]; exact Stream.closed_controlled _ _

theorem State.controlled.applyLimits (h : s.controlled) (r : LimitsReq) : (s.applyLimits r).controlled := by
  have loaded : ((s.writeLimits r).loadStart r.startEstimate).controlled := by
    unfold State.loadStart; split <;> exact h.of_streams fun _ => rfl
  unfold State.applyLimits; dsimp only; split
  · exact loaded.recomputeUsable
  · split
    · exact loaded.reallocate
    · exact loaded

theorem State.controlled.setMasks (h : s.controlled) (r : MaskReq) : (s.setMasks r).controlled :=
  State.controlled.forSlots (h.of_streams fun _ => rfl) fun m _ hu =>
    hu.modStream m fun _ => by rfl

theorem State.controlled.clearFlags (h : s.controlled) : s.clearFlags.controlled :=
  State.controlled.forSlots (h.of_streams fun _ => rfl) fun m _ hu =>
    hu.modStream m fun _ => by rfl

/-! ### OPEN, TUNE and LADDER -/

/-- The marks of an OPEN are in order (R3). -/
theorem Stream.opened_controlled (st : Stream) {c : SlotConfig} (h : openRangesOk c = true) : (st.opened c).controlled := by
  have ranges := of_decide_eq_true h
  simp only [Stream.controlled, Stream.opened, Stream.closed, Stream.active]
  simp only [Bool.false_eq_true, reduceCtorEq, Option.isSome_none, ne_eq, not_true_eq_false, false_implies,
    implies_true, not_false_eq_true, true_implies, true_and]
  tauto

theorem Stream.tuned_controlled {st : Stream} (r : TuneReq) (h : st.controlled) : (st.tuned r).controlled := by
  have stored : ({ st with cfg := SlotConfig.tuned st.cfg r } : Stream).controlled := h
  unfold Stream.tuned; dsimp only; split
  · unfold Stream.lifted; split
    · exact stored.of_control rfl
    · exact stored
  · exact stored

theorem Stream.loaded_controlled {st : Stream} (l : List Rung) (h : st.controlled) (hi : st.state = .idle) :
    (st.loaded l).controlled := by
  obtain ⟨gate, drain, start, stall, overdue, -, -, share, marks⟩ := h
  exact ⟨gate, drain, start, stall, overdue, nofun, fun _ notIdle => absurd hi notIdle, share, marks⟩

end Sys2Proof.Machine
end

section
namespace Sys2Proof.Machine

/-! ## Emptying a stream (R19 to R21) -/

variable {s t : State} (n : Slot)

theorem State.mem_of_normalRecord {r : Record} (h : s.normalRecord n = some r) :
    r ∈ s.pool.records ∧ r.slot = n ∧ r.isNormal = true := by
  have found := List.find?_some h
  simp only [Bool.and_eq_true, beq_iff_eq] at found
  exact ⟨List.mem_of_find?_eq_some h, found⟩

theorem State.mem_of_probeRecord {r : Record} (h : s.probeRecord n = some r) :
    r ∈ s.pool.records ∧ r.slot = n ∧ r.isNormal = false := by
  have found := List.find?_some h
  simp only [Bool.and_eq_true, beq_iff_eq, Bool.not_eq_true'] at found
  exact ⟨List.mem_of_find?_eq_some h, found⟩

/-- The stream after steps 1 and 2 of a drop (R51, R56): a withdrawal takes the previous grant memory. -/
theorem State.dropRecord_stream (s : State) (r : Record) (d : DropReason) (m : Slot) :
    (s.dropRecord r d).stream m =
      if r.slot = m ∧ r.announcePending = true then { s.stream m with prevGrant := none } else s.stream m := by
  unfold State.dropRecord; dsimp only; split
  · rename_i pending
    simp only [State.withdraw, State.stream_modStream, pending, and_true]; rfl
  · rename_i announced
    rw [if_neg fun both => announced both.2]; rfl

/-- A drop of SEEK, STOP or CLOSE (R56) leaves the other streams alone. -/
theorem State.dropFor_elsewhere (s : State) (d : DropReason) {r : Option Record} (h : ∀ x, r = some x → x.slot = n) :
    s.SameElsewhere n (s.dropFor n d r) := by
  cases r with
  | none => exact .refl n s
  | some x => exact (h x rfl ▸ s.dropRecord_elsewhere x d).trans (State.modStream_elsewhere _ n _)

theorem State.dropStream_elsewhere (s : State) (d : DropReason) : s.SameElsewhere n (s.dropStream n d) :=
  (s.dropFor_elsewhere n d fun _ h => (State.mem_of_normalRecord n h).2.1).trans
    (State.dropFor_elsewhere n _ d fun _ h => (State.mem_of_probeRecord n h).2.1)

/-- A drop of SEEK, STOP or CLOSE touches the window and the previous grant memory of its stream alone. -/
theorem State.dropFor_stream (s : State) (d : DropReason) {r : Option Record} (h : ∀ x, r = some x → x.slot = n) :
    ∃ w, (s.dropFor n d r).stream n = { s.stream n with
      window := w, prevGrant := if r.any Record.announcePending then none else (s.stream n).prevGrant } := by
  cases r with
  | none => exact ⟨_, rfl⟩
  | some x =>
    refine ⟨changeEntry x.segment WindowEntry.returned (s.stream n).window, ?_⟩
    simp only [State.dropFor, State.returnEntry, State.stream_modStream_same, State.dropRecord_stream, h x rfl, true_and,
      Option.any_some]
    split <;> rfl

theorem State.dropStream_stream (s : State) (d : DropReason) :
    ∃ w, (s.dropStream n d).stream n = { s.stream n with
      window := w, prevGrant := ((s.dropStream n d).stream n).prevGrant } := by
  obtain ⟨w₁, first⟩ := s.dropFor_stream n d fun _ h => (State.mem_of_normalRecord n h).2.1
  obtain ⟨w₂, second⟩ := (s.dropFor n d (s.normalRecord n)).dropFor_stream n d
    (r := (s.dropFor n d (s.normalRecord n)).probeRecord n) fun _ h => (State.mem_of_probeRecord n h).2.1
  refine ⟨w₂, ?_⟩
  unfold State.dropStream
  dsimp only
  rw [second, first]

/-- The stream once SEEK or STOP has emptied it (R19 steps 1 to 5): nothing of the old position is left. -/
def Stream.emptied (st : Stream) (prev : Option Nat) : Stream :=
  { st with
    gate := false, window := [], origin := none, lastAppended := false, finalKnown := false, dryArmed := false,
    prevGrant := prev, buffer := [], acc := 0, drainTimer := none, margin := .empty, hold := false, landedThrough := none,
    probePending := false, probeLive := false, rescuePending := false,
    flags := if st.margin = .empty then st.flags else withFlag st.flags 4 }

theorem Stream.marks_of_controlled {st : Stream} (h : st.controlled) (hc : st.state ≠ .closed) :
    st.cfg.resume ≤ st.cfg.start ∧ st.cfg.start ≤ st.cfg.target ∧ st.cfg.target ≤ st.cfg.refill ∧
      st.cfg.refill < st.cfg.high :=
  h.2.2.2.2.2.2.2.2 hc

theorem Stream.ladder_of_controlled {st : Stream} (h : st.controlled) (hc : st.state ≠ .closed) (hi : st.state ≠ .idle) :
    st.ladder ≠ [] :=
  h.2.2.2.2.2.2.1 hc hi

/-- Outside PLAYING the gate is closed, no drain step comes and no probe is pending (R9, R22). -/
theorem Stream.of_not_playing {st : Stream} (h : st.controlled) (hp : st.state ≠ .playing) :
    st.gate = false ∧ st.drainTimer = none ∧ st.probePending = false := by
  obtain ⟨gate, drain, -, -, -, probe, -⟩ := h
  simp_all

/-- An empty stream has the margin level EMPTY and, its high mark above its refill mark, no hold (R79, R82). -/
theorem Stream.holdEval_of_empty {st : Stream} (hb : st.buffer = []) (hw : st.window = [])
    (marks : st.cfg.refill < st.cfg.high) : st.holdEval = false := by
  have : ¬st.cfg.high ≤ 0 := by omega
  simp [Stream.holdEval, Stream.occupancy, Stream.fillCount, hb, hw, this]

theorem Stream.marginLevel_of_empty {st : Stream} (hb : st.buffer = []) : st.marginLevel = .empty := by
  simp [Stream.marginLevel, Stream.occupancy, hb]

theorem State.emptyStream_elsewhere (s : State) (d : DropReason) (g : GateReason) :
    s.SameElsewhere n (s.emptyStream n d g) :=
  ((((s.dropStream_elsewhere n d).trans (State.modStream_elsewhere _ n _)).trans
    (State.reevaluate_elsewhere _ n)).trans (State.modStream_elsewhere _ n _)).trans (State.leavePlaying_elsewhere _ n _)

theorem State.emptyStream_stream (h : (s.stream n).controlled) (hc : (s.stream n).state ≠ .closed) (d : DropReason)
    (g : GateReason) :
    (s.emptyStream n d g).stream n = (s.stream n).emptied ((s.dropStream n d).stream n).prevGrant := by
  obtain ⟨w, dropped⟩ := s.dropStream_stream n d
  have marks := (Stream.marks_of_controlled h hc).2.2.2
  unfold State.emptyStream
  dsimp only
  rw [State.leavePlaying_stream]
  simp only [State.stream_modStream_same, State.reevaluate_stream]
  rw [Stream.marginLevel_of_empty rfl, Stream.holdEval_of_empty rfl rfl (by rw [dropped]; exact marks)]
  rw [dropped]
  simp only [Stream.emptyBuffer, Stream.emptyWindow, Stream.clearProbeAndRescue, Stream.emptied, eq_comm (a := Margin.empty),
    StreamFlag.bit]
  split
  · rfl
  · rename_i notPlaying
    rw [(Stream.of_not_playing h notPlaying).1]

end Sys2Proof.Machine
end

section
namespace Sys2Proof.Machine

/-! ## Every act keeps the streams controlled -/

variable {s t : State} (n : Slot)

theorem State.controlled.withEst (h : s.controlled) (e : Estimator) : ({ s with est := e } : State).controlled :=
  h.of_streams fun _ => rfl

theorem State.controlled.withCls (h : s.controlled) (c : Classifier) : ({ s with cls := c } : State).controlled :=
  h.of_streams fun _ => rfl

theorem State.controlled.countBytes (h : s.controlled) (k : Nat) : (s.countBytes k).controlled := h.withEst _

theorem State.controlled.freeRecord (h : s.controlled) (tag : Nat) : (s.freeRecord tag).controlled := h.setRecords _

/-! ### PLAYCTL and CLOSE -/

/-- Entry to STARTING (R11, R12, R19) from a state in which the stream holds a ladder. -/
theorem State.controlled.enterStarting (h : s.controlled) (hp : (s.stream n).state ≠ .playing)
    (hc : (s.stream n).state ≠ .closed) (ladder : (s.stream n).ladder ≠ []) : (s.enterStarting n).controlled := by
  obtain ⟨gate, drain, probe⟩ := Stream.of_not_playing (h n) hp
  have marks := Stream.marks_of_controlled (h n) hc
  refine h.setStream n ?_
  simp [Stream.controlled, Stream.active, gate, drain, probe, ladder, marks]

theorem State.controlled.playAct (h : s.controlled) (ha : (s.stream n).playAllowed = true) : (s.playAct n).controlled := by
  unfold State.playAct; split
  · rename_i idle
    have ladder : (s.stream n).ladder ≠ [] := by simpa [Stream.playAllowed, idle, Stream.hasLadder] using ha
    have marked : (s.modStream n Stream.startOfPlayback).controlled :=
      h.modStream_cancels n fun _ => by rfl
    have same := s.stream_modStream_same n Stream.startOfPlayback
    exact (((marked.enterStarting n (by rw [same]; simp [Stream.startOfPlayback, idle])
      (by rw [same]; simp [Stream.startOfPlayback, idle]) (by rw [same]; exact ladder)).reallocate).readinessTest n)
  · rename_i paused
    have ladder := Stream.ladder_of_controlled (h n) (by simp [paused]) (by simp [paused])
    split
    · exact (h.enterStarting n (by simp [paused]) (by simp [paused]) ladder).readinessTest n
    · exact h.enterPlaying n (by simp [Stream.active, paused]) _
  all_goals exact h

theorem State.controlled.pauseAct (h : s.controlled) (ha : (s.stream n).active = true) : (s.pauseAct n).controlled := by
  unfold State.pauseAct; split
  · exact h
  · have old := h n
    refine ((s.leavePlaying_elsewhere n _).trans (State.modStream_elsewhere _ n _)).controlled n h ?_
    rw [State.stream_modStream_same, State.leavePlaying_stream]
    unfold Stream.controlled at old ⊢
    unfold Stream.active at ha ⊢
    cases hs : (s.stream n).state <;> simp_all

theorem Stream.open_of_seekAllowed {st : Stream} (ha : st.seekAllowed = true) : st.state ≠ .closed ∧ st.state ≠ .idle := by
  unfold Stream.seekAllowed Stream.active at ha
  cases hs : st.state <;> simp_all

theorem State.controlled.seekAct (h : s.controlled) (ha : (s.stream n).seekAllowed = true) : (s.seekAct n).controlled := by
  obtain ⟨hc, hi⟩ := Stream.open_of_seekAllowed ha
  have marks := Stream.marks_of_controlled (h n) hc
  have ladder := Stream.ladder_of_controlled (h n) hc hi
  refine State.controlled.readinessTest n (State.SameElsewhere.reallocateIf_controlled n (s := s) ?_ h ?_ ?_)
  · exact ((s.emptyStream_elsewhere n _ _).trans (State.modStream_elsewhere _ n _)).trans (State.modStream_elsewhere _ n _)
  · simp only [State.enterStarting, State.stream_modStream_same, State.emptyStream_stream n (h n) hc]
    simp [Stream.controlledButShare, Stream.emptied, ladder, marks]
  · intro _ inactive
    simp only [State.enterStarting, State.stream_modStream_same] at inactive
    exact nomatch inactive

theorem State.controlled.stopAct (h : s.controlled) (ha : (s.stream n).seekAllowed = true) : (s.stopAct n).controlled := by
  obtain ⟨hc, -⟩ := Stream.open_of_seekAllowed ha
  have marks := Stream.marks_of_controlled (h n) hc
  refine State.SameElsewhere.reallocateIf_controlled n (s := s) ?_ h ?_ ?_
  · exact (s.emptyStream_elsewhere n _ _).trans (State.modStream_elsewhere _ n _)
  · simp only [State.stream_modStream_same, State.emptyStream_stream n (h n) hc]
    simp [Stream.controlledButShare, Stream.emptied, marks]
  · intro inactive _
    simp only [State.stream_modStream_same, State.emptyStream_stream n (h n) hc]
    exact (h n).share_of_inactive inactive

theorem State.controlled.closeAct (h : s.controlled) : (s.closeAct n).controlled := by
  refine State.SameElsewhere.reallocateIf_controlled n (s := s) ?_ h ?_ ?_
  · exact ((s.dropStream_elsewhere n _).trans (State.leavePlaying_elsewhere _ n _)).trans (State.modStream_elsewhere _ n _)
  · rw [State.stream_modStream_same]; exact (Stream.closed_controlled _ _).butShare
  · intro _ _; rw [State.stream_modStream_same]; rfl

/-! ### Reports -/

theorem State.controlled.landAct (h : s.controlled) (r : Record) (bytes : Nat) : (s.landAct r bytes).controlled := by
  have moved : ((((s.countBytes (bytes - r.reported)).freeRecord r.tag).landEntry r.slot r.segment r.rung
      bytes).contiguousMove r.slot).controlled :=
    (((h.countBytes _).freeRecord _).landEntry _ _ _ _).contiguousMove _
  have ended := moved.modStream r.slot (f := fun st => { st with startLimit := false })
    fun _ => rfl
  unfold State.landAct State.landingReported; dsimp only; split
  · exact ended
  · exact ended.probeSuccess _ _

theorem State.controlled.breakAct (h : s.controlled) (r : Record) : (s.breakAct r).controlled := by
  have freed : (s.freeRecord r.tag).controlled := h.setRecords _
  unfold State.breakAct; dsimp only; split
  · exact freed.failEntry _ _
  · exact ((freed.returnEntry _ _).windowChanged _).probeFailure _

theorem State.controlled.toZone (h : s.controlled) (z : Zone) : (s.toZone z).controlled :=
  (h.withCls { s.cls with zone := z }).raiseDeviceIf _ _

theorem State.controlled.enterJammed (h : s.controlled) : s.enterJammed.controlled := by
  have clamped := (h.forSlots (act := fun n s => s.fall n (s.floor n)) fun m u hu => hu.fall m _).forSlots
    (act := fun n s => s.modStream n fun st => { st with probePending := false })
    fun m u hu => hu.modStream_cancels m fun _ => by rfl
  unfold State.enterJammed; dsimp only
  refine List.foldlRecOn (motive := State.controlled) _ _ (clamped.of_streams fun _ => rfl) fun u hu r _ => ?_
  exact hu.failProbe r _

theorem State.controlled.zoneRise (h : s.controlled) (z : Zone) : (s.zoneRise z).controlled := by
  have risen : ({ s with cls := { s.cls with dwellTimer := none } }.toZone z).controlled :=
    (h.withCls _).toZone z
  have fallen : ∀ {u : State}, u.controlled → u.crowdedFall.controlled := fun hu => hu.forSlots fun m v hv => hv.fall m _
  have entered : ∀ {u : State}, u.controlled → (if z = .jammed then u.enterJammed else u).controlled := fun hu => by
    split
    · exact hu.enterJammed
    · exact hu
  refine entered ?_
  split
  · exact fallen risen
  · exact risen

theorem State.controlled.classify (h : s.controlled) (raw : Zone) : (s.classify raw).controlled := by
  unfold State.classify; dsimp only; split
  · exact (h.withCls _).zoneRise raw
  · exact (h.withCls _).withCls _

theorem State.controlled.zoneTold (h : s.controlled) (was : Zone) : (s.zoneTold was).controlled := by
  unfold State.zoneTold; split
  · exact h
  · split
    · exact h.forSlots fun m u hu => hu.modStream m fun _ => by rfl
    · split
      · exact h.forSlots fun m u hu => hu.modStream m fun _ => by rfl
      · exact h

theorem State.controlled.linkAct (h : s.controlled) (r : LinkReq) : (s.linkAct r).controlled := by
  have told : (((s.sagStep r.rtt).classify (s.cls.rawLevel r.retry r.airtime)).zoneTold s.cls.zone).controlled :=
    (((h.withEst { s.est with sagTrim := s.est.trimAfter r.rtt }).raiseDeviceIf _ _).classify _).zoneTold _
  unfold State.linkAct State.linkUsable; split
  · exact told
  · exact told.recomputeUsable

/-! ### Timers -/

theorem State.controlled.startExpiry (h : s.controlled) : ∀ t, execStartTimerExpiry n s = .next t → t.controlled := by
  rintro _ ⟨⟩
  refine h.whenRunning (h.atExpiry fun e running => ?_)
  have starting : (s.stream n).state = .starting := (h n).2.2.1 (by rw [running]; rfl)
  have base := h.reach e
  have expired : (((s.reach e).modStream n fun st => { st with startTimer := none }).raise n .startLate).controlled := by
    refine State.controlled.raise n (base.setStream n ?_) _
    have old := base n
    unfold Stream.controlled at old ⊢
    exact ⟨old.1, old.2.1, nofun, old.2.2.2⟩
  have same : (((s.reach e).modStream n fun st => { st with startTimer := none }).raise n .startLate).stream n =
      { s.stream n with startTimer := none, flags := withFlag (s.stream n).flags StreamFlag.startLate.bit } := by
    simp [State.raise_stream]
  dsimp only
  split
  · refine expired.setStream n ?_
    have old := expired n
    obtain ⟨gate, drain, start, stall, -, rest⟩ := old
    exact ⟨gate, drain, start, stall, fun _ => by rw [same]; exact starting, rest⟩
  · exact expired.enterPlaying n (by rw [same]; simp [Stream.active, starting]) _

theorem State.controlled.stallExpiry (h : s.controlled) : ∀ t, execStallTimerExpiry n s = .next t → t.controlled := by
  rintro _ ⟨⟩
  refine h.whenRunning (h.atExpiry fun e _ => ?_)
  refine State.controlled.fall n (State.controlled.raise n ((h.reach e).setStream n ?_) _) _
  obtain ⟨gate, drain, start, -, rest⟩ := (h.reach e) n
  exact ⟨gate, drain, start, nofun, rest⟩

theorem State.controlled.stallProbe (h : s.controlled) : (s.stallProbe n).controlled := by
  unfold State.stallProbe; split
  · exact h.failProbe _ _
  · exact h

theorem State.controlled.rescue (h : s.controlled) : (s.rescue n).controlled := by
  unfold State.rescue; split
  · split
    · exact (h.dropToWaiting _ _).modStream n fun _ => by rfl
    · exact h
  · exact h

theorem State.controlled.underrun (h : s.controlled) (hp : (s.stream n).state = .playing) : (s.underrun n).controlled := by
  have entered : (s.enterRebuffering n).controlled := by
    refine State.controlled.raise n (State.SameElsewhere.controlled n
      ((s.leavePlaying_elsewhere n _).trans (State.modStream_elsewhere _ n _)) h ?_) _
    have old := h n
    rw [State.stream_modStream_same, State.leavePlaying_stream, if_pos hp]
    unfold Stream.controlled at old ⊢
    simp_all [Stream.active]
  exact ((entered.fall n _).stallProbe n).rescue n

theorem State.controlled.endOfPresentation (h : s.controlled) (hp : (s.stream n).state = .playing) :
    (s.endOfPresentation n).controlled := by
  have ended : ((s.leavePlaying n .ended).modStream n fun st => { st with state := .ended }).SameElsewhere n
      (((s.leavePlaying n .ended).modStream n fun st => { st with state := .ended }).raise n .ended) :=
    State.raise_elsewhere _ n _
  refine State.SameElsewhere.reallocateIf_controlled n (c := true)
    (((s.leavePlaying_elsewhere n _).trans (State.modStream_elsewhere _ n _)).trans ended) h ?_ nofun
  have old := h n
  rw [State.raise_stream, if_pos rfl, State.stream_modStream_same, State.leavePlaying_stream, if_pos hp]
  unfold Stream.controlled at old
  unfold Stream.controlledButShare
  simp_all

theorem State.controlled.drainAct (h : s.controlled) (hp : (s.stream n).state = .playing) : (s.drainAct n).controlled := by
  have drained : ((s.modStream n Stream.drained).reevaluate n).controlled :=
    State.controlled.reevaluate n (h.modStream n fun st => by simp [Stream.control, Stream.drained])
  have playing : (((s.modStream n Stream.drained).reevaluate n).stream n).state = .playing := by
    rw [State.reevaluate_stream, State.stream_modStream_same]; exact hp
  unfold State.drainAct State.drainEnd; dsimp only; split
  · split
    · exact drained.endOfPresentation n playing
    · exact drained.underrun n playing
  · exact drained

theorem State.controlled.expireNormal (h : s.controlled) (r : Record) : (s.expireNormal r).controlled :=
  (((h.dropRecord r _).failEntry _ _).raise _ _).fall _ _

theorem State.controlled.sampleAct (h : s.controlled) : s.sampleAct.controlled := by
  unfold State.sampleAct; dsimp only; split
  · exact h.withEst _
  · exact (h.withEst _).recomputeUsable

theorem State.controlled.dwellAct (h : s.controlled) : s.dwellAct.controlled :=
  (((h.withCls _).toZone _).zoneTold _).recomputeUsable

/-- A probe made pending in PLAYING (R148, R150). -/
theorem State.controlled.probePending (h : s.controlled) (hp : (s.stream n).state = .playing) :
    (s.modStream n fun st => { st with probePending := true }).controlled := by
  obtain ⟨gate, drain, start, stall, overdue, -, rest⟩ := h n
  exact h.setStream n ⟨gate, drain, start, stall, overdue, fun _ => hp, rest⟩

theorem State.controlled.envelopeAct (h : s.controlled) : (s.envelopeAct n).controlled := by
  have restarted := h.modStream n (f := fun st => { st with stepTimer := s.restartedStep st st.ceiling })
    fun _ => rfl
  unfold State.envelopeAct; split
  · exact h.modStream n fun _ => by rfl
  · exact h.modStream n fun _ => by rfl
  · dsimp only
    split
    · rename_i due
      have playing : (s.stream n).state = .playing := by
        unfold Stream.autoProbeDue at due
        simp only [Bool.and_eq_true, beq_iff_eq] at due
        exact due.1.1.1.1.2
      exact (restarted.probePending n (by rw [State.stream_modStream_same]; exact playing)).arbitrate
    · exact restarted
  · exact h

end Sys2Proof.Machine
end

section
namespace Sys2Proof.Machine

/-! ### The commands -/

theorem State.controlled.exec {s t : State} (h : s.controlled) (c : Instr) (run : exec c s = .next t) : t.controlled := by
  cases c with
  | nrstAssert => obtain rfl := Host.Outcome.next.inj run; exact h.of_streams fun _ => rfl
  | nrstRelease =>
    obtain rfl := Host.Outcome.next.inj run
    split
    · exact h.of_streams fun _ => rfl
    · exact h
  | timeBaseStart =>
    obtain rfl := Host.Outcome.next.inj run
    split
    · exact State.reset_controlled.of_streams fun _ => rfl
    · exact h
  | receiveByte b low => obtain rfl := Host.Outcome.next.inj run; exact h.whenRunning (h.receiveByte b low)
  | gapTimerExpiry =>
    obtain rfl := Host.Outcome.next.inj run
    exact h.whenRunning (h.atExpiry fun e _ => (h.reach e).receiveFault)
  | unknownKindRequest kind body =>
    obtain rfl := Host.Outcome.next.inj run
    split
    · exact h
    · exact h.takeRequest fun _ hu => hu.reply _ _ _
  | transmitStart => exact h.transmitStart t run
  | transmitComplete =>
    obtain rfl := Host.Outcome.next.inj run; exact h.whenRunning (h.of_streams fun _ => rfl)
  | ident body => obtain rfl := Host.Outcome.next.inj run; exact h.request fun _ _ hu _ => hu.reply _ _ _
  | restartStreams body =>
    obtain rfl := Host.Outcome.next.inj run
    exact h.requestIf fun _ u _ _ => ((u.closeAll_controlled).setQueue _).reply _ _ _
  | restartAll body =>
    obtain rfl := Host.Outcome.next.inj run
    exact h.requestIf fun _ u _ _ => (((u.closeAll.resetLink_controlled).setQueue _).reply _ _ _).pushTx _
  | limits body =>
    obtain rfl := Host.Outcome.next.inj run
    exact h.request fun r _ hu _ => (hu.applyLimits r).arbitrate.reply _ _ _
  | mask body =>
    obtain rfl := Host.Outcome.next.inj run
    exact h.request fun r _ hu _ => ((hu.setMasks r).noteIfTurned _).reply _ _ _
  | flags body => obtain rfl := Host.Outcome.next.inj run; exact h.request fun _ _ hu _ => hu.clearFlags.reply _ _ _
  | queryStream body => obtain rfl := Host.Outcome.next.inj run; exact h.requestIf fun _ _ hu _ => hu.reply _ _ _
  | queryLink body => obtain rfl := Host.Outcome.next.inj run; exact h.requestIf fun _ _ hu _ => hu.reply _ _ _
  | queryRecord body => obtain rfl := Host.Outcome.next.inj run; exact h.requestIf fun _ _ hu _ => hu.reply _ _ _
  | openSlot body =>
    obtain rfl := Host.Outcome.next.inj run
    exact h.request fun r u hu passed => (hu.setStream r.slot (Stream.opened_controlled _
      (openRangesOk_of_parseOpen (State.parse_of_checkOpen passed).1).2)).reply _ _ _
  | tune body =>
    obtain rfl := Host.Outcome.next.inj run
    exact h.request fun r _ hu _ => (hu.setStream r.slot (Stream.tuned_controlled r (hu r.slot))).reply _ _ _
  | ladder body =>
    obtain rfl := Host.Outcome.next.inj run
    exact h.request fun r _ hu passed =>
      (hu.setStream r.slot (Stream.loaded_controlled _ (hu r.slot) (State.idle_of_checkLadder passed))).reply _ _ _
  | append body =>
    obtain rfl := Host.Outcome.next.inj run
    exact h.request fun r _ hu _ => ((hu.modStream r.slot fun _ => by rfl).windowChanged _).arbitrate.reply _ _ _
  | play body =>
    obtain rfl := Host.Outcome.next.inj run
    exact h.requestIf fun r _ hu passed =>
      (hu.playAct r.slot (State.allowed_of_checkPlayctl passed)).arbitrate.reply _ _ _
  | pause body =>
    obtain rfl := Host.Outcome.next.inj run
    exact h.requestIf fun r _ hu passed => (hu.pauseAct r.slot (State.allowed_of_checkPlayctl passed)).reply _ _ _
  | seek body =>
    obtain rfl := Host.Outcome.next.inj run
    exact h.requestIf fun r _ hu passed =>
      ((hu.seekAct r.slot (State.allowed_of_checkPlayctl passed)).settle _).reply _ _ _
  | stop body =>
    obtain rfl := Host.Outcome.next.inj run
    exact h.requestIf fun r _ hu passed =>
      ((hu.stopAct r.slot (State.allowed_of_checkPlayctl passed)).settle _).reply _ _ _
  | close body =>
    obtain rfl := Host.Outcome.next.inj run
    refine h.request fun n u hu _ => ?_
    dsimp only
    split
    · exact (hu.closeAct n).arbitrate.reply _ _ _
    · exact (hu.closeAct n).reply _ _ _
  | position body =>
    obtain rfl := Host.Outcome.next.inj run
    exact h.request fun r _ hu _ => (((hu.modStream r.1 fun _ => by rfl).windowChanged _).settle _).reply _ _ _
  | probe body =>
    obtain rfl := Host.Outcome.next.inj run
    exact h.request fun n _ hu passed => (hu.probePending n (State.playing_of_checkProbe passed)).arbitrate.reply _ _ _
  | tally body =>
    obtain rfl := Host.Outcome.next.inj run
    exact h.request fun _ _ hu _ => State.controlled.reply (s := State.changeRecord _ _ _) ((hu.countBytes _).setRecords _) _ _ _
  | landed body =>
    obtain rfl := Host.Outcome.next.inj run
    exact h.request fun q _ hu _ => (hu.landAct q.1 q.2).arbitrate.reply _ _ _
  | broken body =>
    obtain rfl := Host.Outcome.next.inj run
    exact h.request fun r _ hu _ => (hu.breakAct r).arbitrate.reply _ _ _
  | link body =>
    obtain rfl := Host.Outcome.next.inj run
    exact h.request fun r _ hu _ => ((hu.linkAct r).settle _).reply _ _ _
  | startTimerExpiry n => exact h.startExpiry n t run
  | stallTimerExpiry n => exact h.stallExpiry n t run
  | drainStep n =>
    obtain rfl := Host.Outcome.next.inj run
    exact h.whenRunning (h.atExpiry fun e running =>
      ((h.reach e).drainAct n (by rw [State.reach_stream]; exact (h n).2.1.mp (by rw [running]; rfl))).settle _)
  | deadlineExpiry tag =>
    obtain rfl := Host.Outcome.next.inj run
    refine h.whenRunning ?_
    split
    · split
      · exact ((h.reach _).expireNormal _).arbitrate
      · exact h
    · exact h
  | probeDeadlineExpiry tag =>
    obtain rfl := Host.Outcome.next.inj run
    refine h.whenRunning ?_
    split
    · split
      · exact h
      · exact ((h.reach _).failProbe _ _).arbitrate
    · exact h
  | sampleTimerExpiry =>
    obtain rfl := Host.Outcome.next.inj run
    exact h.whenRunning (h.atExpiry fun e _ => (h.reach e).sampleAct)
  | dwellExpiry =>
    obtain rfl := Host.Outcome.next.inj run
    exact h.whenRunning (h.atExpiry fun e _ => (h.reach e).dwellAct)
  | envelopeStepExpiry n =>
    obtain rfl := Host.Outcome.next.inj run
    exact h.whenRunning (h.atExpiry fun e _ => (h.reach e).envelopeAct n)

theorem State.passTime_stream (s : State) (m : Slot) : s.passTime.stream m = s.stream m := by
  unfold State.passTime
  split
  · split <;> rfl
  · rfl

/-- An idle step touches no stream. -/
theorem State.idle_stream (s : State) (m : Slot) : s.idle.stream m = s.stream m := by
  unfold State.idle
  split
  · split
    · exact s.passTime_stream m
    · rfl
  · rfl

/-- A step is an idle step or a command on the state with the queue's rest. -/
theorem step_cases {s t : State} (run : step s = .next t) :
    t = s.idle ∨ ∃ c rest, s.pending = c :: rest ∧ exec c { s with pending := rest } = .next t := by
  unfold step at run
  split at run
  · exact .inl (Host.Outcome.next.inj run).symm
  · rename_i c rest front
    exact .inr ⟨c, rest, front, run⟩

end Sys2Proof.Machine

open Sys2Proof Sys2Proof.Machine

/-- Settles O55: each operation keeps the streams controlled, so each command does, and an idle step touches no stream. -/
theorem everyStepKeepsStreamsControlled : Obligations.EveryStepKeepsStreamsControlled := by
  intro s t h run
  rcases step_cases run with rfl | ⟨c, rest, -, run⟩
  · exact h.of_streams s.idle_stream
  · have queued : ({ s with pending := rest } : State).controlled := h.of_streams fun _ => rfl
    exact queued.exec c run

end

section
namespace Sys2Proof.Machine

/-! ## The transmit queue: what can join it (O60)

With one GATE of each slot and one NOTE at most, the GATEs and the NOTE that wait and those that can still come make five
frames together. So the load of R164 is five more than the other frames and the announced records, and a GATE or a NOTE that
joins leaves it as it is. -/

/-- The frame is neither a GATE nor a NOTE. -/
def TxFrame.isPlain : TxFrame → Bool
  | .gate _ _ _ | .note => false
  | .hello _ | .fetch _ | .drop _ _ | .reply _ _ => true

/-- The number of frames that are neither a GATE nor a NOTE. -/
def plainCount (q : List TxFrame) : Nat := (q.filter TxFrame.isPlain).length

/-- One GATE of each slot (R23) and one NOTE (R179) at most. -/
def callsOnce (q : List TxFrame) : Prop :=
  (∀ n, (q.filter (TxFrame.isGateOf n)).length ≤ 1) ∧ (q.filter TxFrame.isNote).length ≤ 1

/-- The records that a DROP would announce as dropped (R58). -/
def announced (rs : List Record) : Nat := (rs.filter fun r => !r.announcePending).length

/-- The pool is sound, the queue calls once, and with what can still join it stays within `k` frames. -/
structure State.queueFits (k : Nat) (s : State) : Prop where
  pool : s.poolSound
  calls : callsOnce s.tx.queue
  load : plainCount s.tx.queue + announced s.pool.records + 5 ≤ k

/-! ### The five calls -/

theorem length_eq_plain_add_calls (q : List TxFrame) :
    q.length = plainCount q + (q.filter TxFrame.isNote).length + (q.filter (TxFrame.isGateOf 0)).length +
      (q.filter (TxFrame.isGateOf 1)).length + (q.filter (TxFrame.isGateOf 2)).length +
      (q.filter (TxFrame.isGateOf 3)).length := by
  unfold plainCount
  induction q with
  | nil => rfl
  | cons f q ih =>
    cases f with
    | gate n o r =>
      fin_cases n <;> simp [TxFrame.isPlain, TxFrame.isNote, TxFrame.isGateOf] <;> omega
    | note => simp [TxFrame.isPlain, TxFrame.isNote, TxFrame.isGateOf, List.filter_cons]; omega
    | hello _ | fetch _ | drop _ _ | reply _ _ =>
      simp [TxFrame.isPlain, TxFrame.isNote, TxFrame.isGateOf, List.filter_cons]; omega

/-- A kind of frame that waits at most once: it waits, or it can still come. -/
theorem waits_or_can_come {p : TxFrame → Bool} {q : List TxFrame} (h : (q.filter p).length ≤ 1) :
    (q.filter p).length + (if q.any p then 0 else 1) = 1 := by
  by_cases any : q.any p = true
  · have pos : 0 < (q.filter p).length := by
      simpa [List.length_pos_iff_exists_mem, List.mem_filter] using any
    rw [if_pos any]; omega
  · have none : q.filter p = [] := by simpa [List.filter_eq_nil_iff] using any
    rw [if_neg any, none]; rfl

theorem State.queueLoad_eq {s : State} (h : callsOnce s.tx.queue) :
    s.queueLoad = plainCount s.tx.queue + announced s.pool.records + 5 := by
  have length := length_eq_plain_add_calls s.tx.queue
  have note := waits_or_can_come h.2
  have gates := fun n => waits_or_can_come (h.1 n)
  have missing : (slots.filter fun n => !s.tx.queue.any (TxFrame.isGateOf n)).length =
      (if s.tx.queue.any (TxFrame.isGateOf 0) then 0 else 1) + (if s.tx.queue.any (TxFrame.isGateOf 1) then 0 else 1) +
      (if s.tx.queue.any (TxFrame.isGateOf 2) then 0 else 1) + (if s.tx.queue.any (TxFrame.isGateOf 3) then 0 else 1) := by
    generalize TxFrame.isGateOf = p
    simp only [slots, List.filter_cons, List.filter_nil]
    cases s.tx.queue.any (p 0) <;> cases s.tx.queue.any (p 1) <;> cases s.tx.queue.any (p 2) <;>
      cases s.tx.queue.any (p 3) <;> rfl
  have g0 := gates 0
  have g1 := gates 1
  have g2 := gates 2
  have g3 := gates 3
  unfold State.queueLoad State.noteWaiting announced
  omega

theorem State.queueSound_iff (s : State) : s.queueSound ↔ s.queueFits 45 :=
  ⟨fun ⟨pool, load, calls⟩ => ⟨pool, calls, State.queueLoad_eq calls ▸ load⟩,
   fun ⟨pool, calls, load⟩ => ⟨pool, (State.queueLoad_eq calls).symm ▸ load, calls⟩⟩

theorem plainCount_le_length (q : List TxFrame) : plainCount q ≤ q.length := List.length_filter_le _ _

theorem length_le_of_callsOnce {q : List TxFrame} (h : callsOnce q) : q.length ≤ plainCount q + 5 := by
  have length := length_eq_plain_add_calls q
  have g0 := h.1 0
  have g1 := h.1 1
  have g2 := h.1 2
  have g3 := h.1 3
  have note := h.2
  omega

/-! ### What joins and leaves the queue -/

theorem callsOnce.sublist {q q' : List TxFrame} (h : callsOnce q) (sub : q'.Sublist q) : callsOnce q' :=
  ⟨fun n => (sub.filter _).length_le.trans (h.1 n), (sub.filter _).length_le.trans h.2⟩

theorem plainCount_sublist {q q' : List TxFrame} (sub : q'.Sublist q) : plainCount q' ≤ plainCount q :=
  (sub.filter _).length_le

theorem plainCount_append (q : List TxFrame) (f : TxFrame) :
    plainCount (q ++ [f]) = plainCount q + if f.isPlain then 1 else 0 := by
  cases h : f.isPlain <;> simp [plainCount, List.filter_append, h]

theorem callsOnce.append_plain {q : List TxFrame} (h : callsOnce q) {f : TxFrame} (plain : f.isPlain = true) :
    callsOnce (q ++ [f]) := by
  have quiet : (∀ n, f.isGateOf n = false) ∧ f.isNote = false := by
    cases f with
    | gate => cases plain
    | note => cases plain
    | _ => exact ⟨fun _ => rfl, rfl⟩
  obtain ⟨gate, note⟩ := quiet
  exact ⟨fun n => by simpa [List.filter_append, gate n] using h.1 n, by simpa [List.filter_append, note] using h.2⟩

theorem callsOnce.append_note {q : List TxFrame} (h : callsOnce q) (none : q.any TxFrame.isNote = false) :
    callsOnce (q ++ [.note]) := by
  have empty : q.filter TxFrame.isNote = [] := by simpa [List.filter_eq_nil_iff] using none
  exact ⟨fun n => by simpa [List.filter_append, TxFrame.isGateOf] using h.1 n,
    by rw [List.filter_append, empty]; exact le_refl 1⟩

theorem TxFrame.isGateOf_iff {n : Slot} {f : TxFrame} : f.isGateOf n = true ↔ ∃ o r, f = .gate n o r := by
  cases f <;> simp [TxFrame.isGateOf]

/-- What a replaced GATE leaves as it was: any test of frames that tells no GATE of a slot from another (R23). -/
theorem map_replaceGate {α : Type} {p : TxFrame → α} {n : Slot} {o : Bool} {r : GateReason}
    (h : ∀ o' r', p (.gate n o' r') = p (.gate n o r)) (q : List TxFrame) :
    (replaceGate n (.gate n o r) q).map p = q.map p := by
  induction q with
  | nil => rfl
  | cons g q ih =>
    unfold replaceGate
    split
    · rename_i gate
      obtain ⟨o', r', rfl⟩ := TxFrame.isGateOf_iff.mp gate
      simp [h o' r']
    · simp [ih]

theorem length_filter_eq_count_map {α : Type} (p : α → Bool) (l : List α) : (l.filter p).length = (l.map p).count true := by
  induction l with
  | nil => rfl
  | cons a l ih => cases h : p a <;> simp [h, ih]

theorem length_filter_replaceGate {p : TxFrame → Bool} {n : Slot} {o : Bool} {r : GateReason}
    (h : ∀ o' r', p (.gate n o' r') = p (.gate n o r)) (q : List TxFrame) :
    ((replaceGate n (.gate n o r) q).filter p).length = (q.filter p).length := by
  rw [length_filter_eq_count_map, map_replaceGate h, ← length_filter_eq_count_map]

theorem plainCount_placeGate (q : List TxFrame) (n : Slot) (o : Bool) (r : GateReason) :
    plainCount (placeGate q n o r) = plainCount q := by
  unfold placeGate; split
  · exact length_filter_replaceGate (fun _ _ => rfl) q
  · exact plainCount_append q _

theorem callsOnce.placeGate {q : List TxFrame} (h : callsOnce q) (n : Slot) (o : Bool) (r : GateReason) :
    callsOnce (placeGate q n o r) := by
  unfold Machine.placeGate; split
  · exact ⟨fun m => (length_filter_replaceGate (fun _ _ => rfl) q).trans_le (h.1 m),
      (length_filter_replaceGate (fun _ _ => rfl) q).trans_le h.2⟩
  · rename_i none
    have empty : q.filter (TxFrame.isGateOf n) = [] := by simpa [List.filter_eq_nil_iff] using none
    refine ⟨fun m => ?_, by simpa [List.filter_append, TxFrame.isNote] using h.2⟩
    by_cases e : n = m
    · subst e; simp [List.filter_append, empty, TxFrame.isGateOf]
    · simpa [List.filter_append, TxFrame.isGateOf, e] using h.1 m

/-- A GATE directive is placed in the queue (R23). -/
theorem State.pushGate_eq (s : State) (n : Slot) (o : Bool) (r : GateReason) :
    s.pushGate n o r = s.setQueue (placeGate s.tx.queue n o r) := by
  unfold State.pushGate placeGate; split <;> rfl

/-- With a part running out of one frame less at the head, a record may be announced in its place. -/
theorem plainCount_cons (f : TxFrame) (q : List TxFrame) :
    plainCount (f :: q) = (if f.isPlain then 1 else 0) + plainCount q := by
  cases h : f.isPlain <;> simp [plainCount, h]; omega

/-! ### The pool -/

theorem announced_le_length (rs : List Record) : announced rs ≤ rs.length := List.length_filter_le _ _

/-- The pool's soundness reads the pool and the slot limit. -/
theorem State.poolSound.congr {s t : State} (h : s.poolSound) (pool : t.pool = s.pool)
    (limit : t.arb.slotLimit = s.arb.slotLimit) : t.poolSound := by
  unfold State.poolSound at h ⊢
  rwa [pool, limit]

/-- Records may leave a sound pool (R46). -/
theorem State.poolSound.sublist {s : State} (h : s.poolSound) {rs : List Record} (sub : rs.Sublist s.pool.records) :
    (s.setRecords rs).poolSound := by
  obtain ⟨tags, range, length, next, next', limit, limit', kinds⟩ := h
  exact ⟨(sub.map _).nodup tags, fun r hr => range r (sub.subset hr), sub.length_le.trans length, next, next', limit, limit',
    fun n => ⟨(sub.filter _).length_le.trans (kinds n).1, (sub.filter _).length_le.trans (kinds n).2⟩⟩

/-- A record may change in everything but tag, slot and kind. -/
theorem State.poolSound.map {s : State} (h : s.poolSound) {g : Record → Record}
    (hg : ∀ r, (g r).tag = r.tag ∧ (g r).slot = r.slot ∧ (g r).kind = r.kind) :
    (s.setRecords (s.pool.records.map g)).poolSound := by
  obtain ⟨tags, range, length, next, next', limit, limit', kinds⟩ := h
  have same_tags : (s.pool.records.map g).map Record.tag = s.pool.records.map Record.tag := by
    rw [List.map_map]; exact List.map_congr_left fun r _ => (hg r).1
  have same_count : ∀ p : Record → Bool, (∀ r, p (g r) = p r) →
      ((s.pool.records.map g).filter p).length = (s.pool.records.filter p).length := fun p hp => by
    rw [List.filter_map, List.length_map]
    exact congrArg List.length (List.filter_congr fun r _ => hp r)
  refine ⟨same_tags ▸ tags, ?_, by simpa using length, next, next', limit, limit', fun n => ?_⟩
  · intro r hr
    obtain ⟨x, hx, rfl⟩ := List.mem_map.mp hr
    rw [(hg x).1]; exact range x hx
  · refine ⟨(same_count _ fun r => ?_).trans_le (kinds n).1, (same_count _ fun r => ?_).trans_le (kinds n).2⟩ <;>
      simp only [Record.isNormal, (hg r).2.1, (hg r).2.2]

end Sys2Proof.Machine
end

section
namespace Sys2Proof.Machine

/-! ### The next tag (R47) -/

theorem tagAfter_range {t : Nat} (h : 1 ≤ t) : 1 ≤ tagAfter t ∧ tagAfter t ≤ 255 := by
  unfold tagAfter; split <;> omega

/-- The counter `i` places on, as R47 counts: 255 is followed by 1. -/
theorem tagAfter_iterate {t : Nat} (h : 1 ≤ t) (h' : t ≤ 255) (i : Nat) : tagAfter^[i] t = (t - 1 + i) % 255 + 1 := by
  induction i with
  | zero => simp only [Function.iterate_zero, id_eq]; omega
  | succ i ih =>
    rw [Function.iterate_succ_apply', ih]
    unfold tagAfter; split <;> omega

theorem firstFreeTag_range (live : List Nat) (k : Nat) :
    ∀ {t : Nat}, 1 ≤ t → t ≤ 255 → 1 ≤ firstFreeTag live k t ∧ firstFreeTag live k t ≤ 255 := by
  induction k with
  | zero => exact fun h h' => ⟨h, h'⟩
  | succ k ih =>
    intro t h h'
    unfold firstFreeTag; split
    · exact ih (tagAfter_range h).1 (tagAfter_range h).2
    · exact ⟨h, h'⟩

/-- A search that ends on a live tag has passed over live tags alone. -/
theorem passed_of_firstFreeTag_live {live : List Nat} (k : Nat) :
    ∀ {t : Nat}, firstFreeTag live k t ∈ live → ∀ i, i < k → tagAfter^[i] t ∈ live := by
  induction k with
  | zero => intro t _ i hi; omega
  | succ k ih =>
    intro t h i hi
    unfold firstFreeTag at h
    split at h
    · rename_i passed
      cases i with
      | zero => exact List.contains_iff_mem.mp passed
      | succ i => rw [Function.iterate_succ_apply]; exact ih h i (by omega)
    · rename_i free
      exact absurd (List.contains_iff_mem.mpr h) free

/-- With fewer than 8 live records one of eight tags in a row is free (R47, R49). -/
theorem firstFreeTag_free {live : List Nat} (few : live.length < 8) {t : Nat} (h : 1 ≤ t) (h' : t ≤ 255) :
    firstFreeTag live 8 t ∉ live := by
  intro mem
  have passed := passed_of_firstFreeTag_live 8 mem
  have distinct : ((List.range 8).map fun i => tagAfter^[i] t).Nodup := by
    refine List.Nodup.map_on (fun i hi j hj e => ?_) List.nodup_range
    simp only [tagAfter_iterate h h', List.mem_range] at hi hj e
    omega
  have within : ((List.range 8).map fun i => tagAfter^[i] t) ⊆ live := fun x hx => by
    obtain ⟨i, hi, rfl⟩ := List.mem_map.mp hx
    exact passed i (List.mem_range.mp hi)
  have := (List.subperm_of_subset distinct within).length_le
  simp only [List.length_map, List.length_range] at this
  omega

/-! ### Making a record keeps the pool sound (R47, R49) -/

theorem State.newRecord_tag (s : State) (n : Slot) (e : WindowEntry) (k : FetchKind) (rung : Nat) :
    (s.newRecord n e k rung).tag = firstFreeTag (s.pool.records.map Record.tag) 8 s.pool.nextTag := rfl

theorem State.normalRecord_none_iff {s : State} {n : Slot} :
    s.normalRecord n = none ↔ (s.pool.records.filter fun r => r.slot == n && r.isNormal) = [] := by
  rw [State.normalRecord, List.find?_eq_none, List.filter_eq_nil_iff]

theorem State.probeRecord_none_iff {s : State} {n : Slot} :
    s.probeRecord n = none ↔ (s.pool.records.filter fun r => r.slot == n && !r.isNormal) = [] := by
  rw [State.probeRecord, List.find?_eq_none, List.filter_eq_nil_iff]

/-- A record is made where a slot of the pool is free and the stream has none of its class (R49). -/
theorem State.poolSound.makeRecord {s : State} (h : s.poolSound) (n : Slot) (e : WindowEntry) (k : FetchKind) (rung : Nat)
    (free : s.liveCount < s.arb.slotLimit) (normal : k ≠ .probe → s.normalRecord n = none)
    (probe : k = .probe → s.probeRecord n = none) : (s.makeRecord n e k rung).poolSound := by
  obtain ⟨tags, range, length, next, next', limit, limit', kinds⟩ := h
  have live : (s.pool.records.map Record.tag).length < 8 := by
    rw [List.length_map]; exact lt_of_lt_of_le free limit'
  have fresh := firstFreeTag_free live next next'
  have new_range := firstFreeTag_range (s.pool.records.map Record.tag) 8 next next'
  have records : (s.makeRecord n e k rung).pool.records = s.pool.records ++ [s.newRecord n e k rung] := rfl
  have arb : (s.makeRecord n e k rung).arb = s.arb := rfl
  have nextTag : (s.makeRecord n e k rung).pool.nextTag = tagAfter (s.newRecord n e k rung).tag := rfl
  unfold State.poolSound
  rw [records, arb, nextTag, State.newRecord_tag]
  refine ⟨?_, ?_, ?_, (tagAfter_range new_range.1).1, (tagAfter_range new_range.1).2, limit, limit', fun m => ?_⟩
  · rw [List.map_append, List.nodup_append]
    refine ⟨tags, List.nodup_singleton _, fun a ha b hb => ?_⟩
    rw [List.map_singleton, List.mem_singleton, State.newRecord_tag] at hb
    subst hb; exact fun e => fresh (e ▸ ha)
  · intro r hr
    rcases List.mem_append.mp hr with hr | hr
    · exact range r hr
    · rw [List.mem_singleton.mp hr]; exact new_range
  · rw [List.length_map] at live
    rw [List.length_append, List.length_singleton]; omega
  · have slot : (s.newRecord n e k rung).slot = n := rfl
    have kind : (s.newRecord n e k rung).isNormal = (k != .probe) := rfl
    simp only [List.filter_append, List.length_append, List.filter_singleton, slot, kind]
    by_cases same : n = m
    · subst same
      by_cases isProbe : k = .probe
      · simpa [isProbe, State.probeRecord_none_iff.mp (probe isProbe)] using (kinds n).1
      · have differs : (k != .probe) = true := by simpa using isProbe
        simpa [differs, State.normalRecord_none_iff.mp (normal isProbe)] using (kinds n).2
    · have other : (n == m) = false := by simpa using same
      simpa [other] using kinds m

end Sys2Proof.Machine
end

section
namespace Sys2Proof.Machine

/-! ### What each operation does to the queue's load -/

variable {s t : State} {k : Nat} (n : Slot)

theorem State.queueFits.mono (h : s.queueFits k) {k' : Nat} (le : k ≤ k') : s.queueFits k' :=
  ⟨h.pool, h.calls, h.load.trans le⟩

/-- The queue's load reads the pool, the slot limit and the queue. -/
theorem State.queueFits.congr (h : s.queueFits k) (pool : t.pool = s.pool) (limit : t.arb.slotLimit = s.arb.slotLimit)
    (queue : t.tx.queue = s.tx.queue) : t.queueFits k :=
  ⟨h.pool.congr pool limit, queue ▸ h.calls, by rw [queue, pool]; exact h.load⟩

theorem State.queueFits.modStream (h : s.queueFits k) (f : Stream → Stream) : (s.modStream n f).queueFits k :=
  h.congr rfl rfl rfl

theorem State.queueFits.setStream (h : s.queueFits k) (st : Stream) : (s.setStream n st).queueFits k := h.congr rfl rfl rfl

theorem State.queueFits.forSlots {act : Slot → State → State} (h : s.queueFits k)
    (ha : ∀ m u, u.queueFits k → (act m u).queueFits k) : (s.forSlots act).queueFits k :=
  State.forSlots_rel (R := fun s t => s.queueFits k → t.queueFits k) (fun a b => b ∘ a) ha s h

theorem State.queueFits.reach (h : s.queueFits k) (e : Nat) : (s.reach e).queueFits k := by
  unfold State.reach; split
  · exact h.congr rfl rfl rfl
  · exact h

/-- Frames may leave the queue. -/
theorem State.queueFits.sublist (h : s.queueFits k) {q : List TxFrame} (sub : q.Sublist s.tx.queue) :
    (s.setQueue q).queueFits k :=
  ⟨h.pool, h.calls.sublist sub, le_trans (Nat.add_le_add_right (Nat.add_le_add_right (plainCount_sublist sub) _) _) h.load⟩

/-- A frame other than a GATE or a NOTE takes one place. -/
theorem State.queueFits.pushPlain (h : s.queueFits k) {f : TxFrame} (plain : f.isPlain = true) :
    (s.pushTx f).queueFits (k + 1) := by
  refine ⟨h.pool, h.calls.append_plain plain, ?_⟩
  have load := h.load
  rw [State.pushTx_queue, State.pushTx_pool, plainCount_append, plain, if_pos rfl]
  omega

theorem State.queueFits.reply (h : s.queueFits k) (kind : Byte) (e : Status) (fs : List Byte) :
    (s.reply kind e fs).queueFits (k + 1) := h.pushPlain rfl

theorem State.queueFits.noteIfTurned (h : s.queueFits k) (b : State) : (s.noteIfTurned b).queueFits k := by
  unfold State.noteIfTurned; split
  · rename_i turned
    simp only [Bool.and_eq_true, Bool.not_eq_true'] at turned
    exact ⟨h.pool, h.calls.append_note turned.2, by
      rw [State.pushTx_queue, State.pushTx_pool, plainCount_append]; exact h.load⟩
  · exact h

theorem State.queueFits.withDev (h : s.queueFits k) (d : DeviceFlags) : ({ s with dev := d } : State).queueFits k :=
  h.congr rfl rfl rfl

theorem State.queueFits.pushGate (h : s.queueFits k) (o : Bool) (r : GateReason) : (s.pushGate n o r).queueFits k := by
  rw [State.pushGate_eq]
  exact ⟨h.pool, h.calls.placeGate n o r, by
    rw [State.setQueue_queue, State.setQueue_pool, plainCount_placeGate]; exact h.load⟩

theorem State.queueFits.raise (h : s.queueFits k) (f : StreamFlag) : (s.raise n f).queueFits k := by
  unfold State.raise; split
  · exact h
  · exact (h.modStream n _).noteIfTurned _

theorem State.queueFits.raiseIf (h : s.queueFits k) (c : Bool) (f : StreamFlag) : (s.raiseIf c n f).queueFits k := by
  unfold State.raiseIf; split
  · exact h.raise n f
  · exact h

theorem State.queueFits.raiseDevice (h : s.queueFits k) (f : DeviceFlag) : (s.raiseDevice f).queueFits k := by
  unfold State.raiseDevice; split
  · exact h
  · exact (h.withDev _).noteIfTurned _

theorem State.queueFits.raiseDeviceIf (h : s.queueFits k) (c : Bool) (f : DeviceFlag) :
    (s.raiseDeviceIf c f).queueFits k := by
  unfold State.raiseDeviceIf; split
  · exact h.raiseDevice f
  · exact h

theorem State.queueFits.reevaluate (h : s.queueFits k) : (s.reevaluate n).queueFits k := (h.modStream n _).raiseIf n _ _

theorem State.queueFits.enterPlaying (h : s.queueFits k) (r : GateReason) : (s.enterPlaying n r).queueFits k :=
  (h.modStream n _).pushGate n _ _

theorem State.queueFits.leavePlaying (h : s.queueFits k) (r : GateReason) : (s.leavePlaying n r).queueFits k := by
  unfold State.leavePlaying; split
  · exact (h.modStream n _).pushGate n _ _
  · exact h

theorem State.queueFits.readinessTest (h : s.queueFits k) : (s.readinessTest n).queueFits k := by
  unfold State.readinessTest; split
  · exact h.enterPlaying n _
  · exact h

theorem State.queueFits.windowChanged (h : s.queueFits k) : (s.windowChanged n).queueFits k :=
  (h.reevaluate n).readinessTest n

theorem State.queueFits.contiguousMove (h : s.queueFits k) : (s.contiguousMove n).queueFits k :=
  (h.modStream n _).windowChanged n

theorem State.queueFits.skipEntry (h : s.queueFits k) (e : WindowEntry) : (s.skipEntry n e).queueFits k :=
  (((h.modStream n _).raise n _).modStream n _).contiguousMove n

theorem State.queueFits.failEntry (h : s.queueFits k) (seg : Nat) : (s.failEntry n seg).queueFits k := by
  unfold State.failEntry; split
  · exact h
  · split
    · exact (h.modStream n _).windowChanged n
    · exact h.skipEntry n _

theorem State.queueFits.fall (h : s.queueFits k) (named : Nat) : (s.fall n named).queueFits k := h.modStream n _

theorem State.queueFits.probeFailure (h : s.queueFits k) : (s.probeFailure n).queueFits k :=
  ((h.fall n _).raise n _).modStream n _

theorem State.queueFits.probeSuccess (h : s.queueFits k) (r : Nat) : (s.probeSuccess n r).queueFits k := by
  unfold State.probeSuccess
  exact (((h.modStream n _).raiseIf n _ _).raise n _).modStream n _

theorem State.queueFits.reallocate (h : s.queueFits k) : s.reallocate.queueFits k := h.forSlots fun m _ hu => hu.modStream m _

theorem State.queueFits.reallocateIf (h : s.queueFits k) (c : Bool) : (s.reallocateIf c).queueFits k := by
  unfold State.reallocateIf; split
  · exact h.reallocate
  · exact h

theorem State.queueFits.withEst (h : s.queueFits k) (e : Estimator) : ({ s with est := e } : State).queueFits k :=
  h.congr rfl rfl rfl

theorem State.queueFits.withCls (h : s.queueFits k) (c : Classifier) : ({ s with cls := c } : State).queueFits k :=
  h.congr rfl rfl rfl

theorem State.queueFits.recomputeUsable (h : s.queueFits k) : s.recomputeUsable.queueFits k := (h.withEst _).reallocate

/-! ### Records that leave (R46, R56, R58) -/

/-- A record freed leaves its place: a sound pool with one announced record less where it was announced. -/
theorem State.queueFits.freeRecord (h : s.queueFits k) (tag : Nat) : (s.freeRecord tag).queueFits k :=
  ⟨h.pool.sublist List.filter_sublist, h.calls,
    le_trans (Nat.add_le_add_right (Nat.add_le_add_left (List.filter_sublist.filter _).length_le _) _) h.load⟩

theorem announced_filter_lt {rs : List Record} {r : Record} (mem : r ∈ rs) (told : r.announcePending = false) :
    announced (rs.filter fun x => x.tag != r.tag) < announced rs := by
  have sub : ((rs.filter fun x => x.tag != r.tag).filter fun x => !x.announcePending).Sublist
      (rs.filter fun x => !x.announcePending) := List.filter_sublist.filter _
  refine lt_of_le_of_ne sub.length_le fun same => ?_
  have kept : r ∈ (rs.filter fun x => x.tag != r.tag).filter fun x => !x.announcePending := by
    rw [sub.eq_of_length same]; simp [mem, told]
  simp at kept

theorem State.queueFits.dropRecord (h : s.queueFits k) {r : Record} (mem : r ∈ s.pool.records) (d : DropReason) :
    (s.dropRecord r d).queueFits k := by
  have freed := h.freeRecord r.tag
  unfold State.dropRecord; dsimp only; split
  · exact (freed.sublist List.filter_sublist).modStream r.slot _
  · rename_i told
    have fewer := announced_filter_lt mem (by simpa using told)
    refine ⟨freed.pool, freed.calls.append_plain rfl, ?_⟩
    have load := h.load
    rw [State.pushTx_queue, State.pushTx_pool, plainCount_append, State.freeRecord_tx, State.freeRecord_records]
    simp only [TxFrame.isPlain, if_true]
    omega

theorem State.queueFits.returnEntry (h : s.queueFits k) (seg : Nat) : (s.returnEntry n seg).queueFits k := h.modStream n _

theorem State.queueFits.dropToWaiting (h : s.queueFits k) {r : Record} (mem : r ∈ s.pool.records) (d : DropReason) :
    (s.dropToWaiting r d).queueFits k :=
  ((h.dropRecord mem d).returnEntry _ _).windowChanged _

theorem State.queueFits.failProbe (h : s.queueFits k) {r : Record} (mem : r ∈ s.pool.records) (d : DropReason) :
    (s.failProbe r d).queueFits k :=
  (h.dropToWaiting mem d).probeFailure _

theorem State.queueFits.dropFor (h : s.queueFits k) (d : DropReason) {r : Option Record}
    (mem : ∀ x, r = some x → x ∈ s.pool.records) : (s.dropFor n d r).queueFits k := by
  cases r with
  | none => exact h
  | some r => exact (h.dropRecord (mem r rfl) d).returnEntry n _

theorem State.queueFits.dropStream (h : s.queueFits k) (d : DropReason) : (s.dropStream n d).queueFits k :=
  (h.dropFor n d fun _ found => (State.mem_of_normalRecord n found).1).dropFor n d
    fun _ found => (State.mem_of_probeRecord n found).1

/-- The records left after a drop (R46). -/
theorem State.dropRecord_records (s : State) (r : Record) (d : DropReason) :
    (s.dropRecord r d).pool.records = s.pool.records.filter fun x => x.tag != r.tag := by
  unfold State.dropRecord; dsimp only; split <;> rfl

theorem State.failProbe_records (s : State) (r : Record) (d : DropReason) :
    (s.failProbe r d).pool.records = s.pool.records.filter fun x => x.tag != r.tag := by
  unfold State.failProbe State.dropToWaiting State.returnEntry
  rw [(State.probeFailure_blocks _ _).pool, (State.windowChanged_blocks _ _).pool, State.modStream_pool,
    State.dropRecord_records]

/-! ### Grants (R129, R133) -/

/-- A grant is made with at most 20 frames queued, so that its FETCH finds room (R133). -/
theorem State.queueFits.makeRecord (h : s.queueFits k) (e : WindowEntry) (kind : FetchKind) (rung : Nat)
    (free : s.liveCount < s.arb.slotLimit) (normal : kind ≠ .probe → s.normalRecord n = none)
    (probe : kind = .probe → s.probeRecord n = none) (room : plainCount s.tx.queue ≤ 20) :
    (s.makeRecord n e kind rung).queueFits 34 := by
  have sound := h.pool.makeRecord n e kind rung free normal probe
  have length : (s.makeRecord n e kind rung).pool.records.length ≤ 8 := sound.2.2.1
  refine ⟨sound, h.calls.append_plain rfl, ?_⟩
  have few := announced_le_length (s.makeRecord n e kind rung).pool.records
  have queue : plainCount (s.makeRecord n e kind rung).tx.queue = plainCount s.tx.queue + 1 :=
    plainCount_append s.tx.queue _
  omega

theorem State.mostUrgent_mem (s : State) {m : Slot} (ns : List Slot) (h : s.mostUrgent ns = some m) : m ∈ ns := by
  induction ns generalizing m with
  | nil => cases h
  | cons n ns ih =>
    unfold State.mostUrgent at h
    split at h
    · rename_i x found
      split at h
      · cases h; exact List.mem_cons_of_mem _ (ih found)
      · cases h; exact List.mem_cons_self
    · cases h; exact List.mem_cons_self

theorem State.eligible_of_nextNormal {m : Slot} (h : s.nextNormal = some m) : s.normalEligible m = true :=
  (List.mem_filter.mp (s.mostUrgent_mem _ h)).2

theorem State.eligible_of_nextProbe {m : Slot} (h : s.nextProbe = some m) : s.probeEligible m = true :=
  List.find?_some h

theorem State.normalRecord_of_eligible {m : Slot} (h : s.normalEligible m = true) : s.normalRecord m = none := by
  unfold State.normalEligible at h
  simp only [Bool.and_eq_true, Option.isNone_iff_eq_none] at h
  exact h.1.2

theorem State.probeRecord_of_eligible {m : Slot} (h : s.probeEligible m = true) : s.probeRecord m = none := by
  unfold State.probeEligible at h
  simp only [Bool.and_eq_true, Option.isNone_iff_eq_none] at h
  exact h.1.1.1.1.1.2

theorem State.normalDecision_kind (s : State) (m : Slot) : (s.normalDecision m).1 ≠ .probe := by
  unfold State.normalDecision; split <;> exact nofun

/-- A raise adds no plain frame. -/
theorem State.plainCount_takeDecision (s : State) (r : Nat) :
    plainCount (s.takeDecision n r).tx.queue = plainCount s.tx.queue := by
  have noted : ∀ (u b : State), plainCount (u.noteIfTurned b).tx.queue = plainCount u.tx.queue := fun u b => by
    unfold State.noteIfTurned; split
    · exact plainCount_append _ _
    · rfl
  unfold State.takeDecision State.raiseIf State.raise
  split
  · split
    · rfl
    · exact noted _ _
  · rfl

theorem State.queueFits.grantNormal (h : s.queueFits k) (hk : 34 ≤ k) (may : s.mayGrant = true)
    (eligible : s.normalEligible n = true) : (s.grantNormal n).queueFits k := by
  obtain ⟨free, short⟩ := of_decide_eq_true may
  unfold State.grantNormal; split
  · exact h
  · refine State.queueFits.windowChanged n (State.queueFits.congr (s := State.makeRecord _ n _ _ _) ?_ rfl rfl rfl)
    have same := s.takeDecision_blocks n (s.normalDecision n).2
    have taken : (s.takeDecision n (s.normalDecision n).2).queueFits k := (h.modStream n _).raiseIf n _ _
    refine (State.queueFits.makeRecord n taken _ _ _ ?_ (fun _ => ?_) (fun isProbe => ?_) ?_).mono hk
    · rw [State.liveCount, same.pool, same.arb]; exact free
    · rw [State.normalRecord, same.pool]; exact State.normalRecord_of_eligible eligible
    · exact absurd isProbe (s.normalDecision_kind n)
    · rw [State.plainCount_takeDecision]; exact (plainCount_le_length _).trans short

theorem State.queueFits.grantProbe (h : s.queueFits k) (hk : 34 ≤ k) (may : s.mayGrant = true)
    (eligible : s.probeEligible n = true) : (s.grantProbe n).queueFits k := by
  obtain ⟨free, short⟩ := of_decide_eq_true may
  unfold State.grantProbe; split
  · exact h
  · refine State.queueFits.windowChanged n (State.queueFits.congr (s := State.makeRecord _ n _ _ _) ?_ rfl rfl rfl)
    have probing := h.modStream n fun st => { st with probePending := false, probeLive := true }
    refine (probing.makeRecord n _ _ _ ?_ (fun no => absurd rfl no) (fun _ => ?_) ?_).mono hk
    · exact free
    · show s.probeRecord n = none
      exact State.probeRecord_of_eligible eligible
    · exact (plainCount_le_length _).trans short

theorem State.queueFits.grants (hk : 34 ≤ k) (i : Nat) : ∀ {s : State}, s.queueFits k → (State.grants i s).queueFits k := by
  induction i with
  | zero => exact id
  | succ i ih =>
    intro s h
    unfold State.grants; split
    · rename_i may
      split
      · rename_i next; exact ih (h.grantNormal _ hk may (State.eligible_of_nextNormal next))
      · rename_i next; exact ih (h.grantProbe _ hk may (State.eligible_of_nextProbe next))
      · exact h
    · exact h

theorem State.queueFits.dryTest (h : s.queueFits k) : (State.dryTest n s).queueFits k := by
  unfold State.dryTest; split
  · exact (h.raise n _).modStream n _
  · exact h

theorem State.queueFits.arbitrate (h : s.queueFits k) (hk : 34 ≤ k) : s.arbitrate.queueFits k :=
  State.queueFits.grants hk 8 (h.forSlots fun m _ hu => hu.dryTest m)

theorem State.queueFits.settle (h : s.queueFits k) (hk : 34 ≤ k) (b : State) : (s.settle b).queueFits k := by
  unfold State.settle; split
  · exact h.arbitrate hk
  · exact h

end Sys2Proof.Machine
end

section
namespace Sys2Proof.Machine

/-! ### Every command keeps the queue within its frames -/

variable {s t : State} {k : Nat} (n : Slot)

/-- With fewer than 32 frames queued the load leaves room for the reply (R160, R164). -/
theorem State.queueFits.of_length_lt (h : s.queueFits k) (short : s.tx.queue.length < 32) : s.queueFits 44 := by
  have records : s.pool.records.length ≤ 8 := h.pool.2.2.1
  have few := announced_le_length s.pool.records
  have plain := plainCount_le_length s.tx.queue
  exact ⟨h.pool, h.calls, by omega⟩

theorem State.queueFits.frameComplete (h : s.queueFits k) (f : Frame) : (s.frameComplete f).queueFits k := by
  unfold State.frameComplete; split
  · exact h.congr rfl rfl rfl
  · exact h.raiseDevice _

theorem State.queueFits.offer (h : s.queueFits k) (f : Frame) : (s.offer f).queueFits k := by
  unfold State.offer; split
  · exact h
  · split
    · exact h.frameComplete f
    · exact h

theorem State.queueFits.popFrame (h : s.queueFits k) : s.popFrame.queueFits k := h.congr rfl rfl rfl

theorem State.queueFits.takeRequest (h : s.queueFits 45) {f : Frame} {act : State → State}
    (ha : ∀ u : State, u.queueFits 44 → (act u).queueFits 45) : (s.takeRequest f act).queueFits 45 :=
  State.takeRequest_keeps h (h.offer f) fun short => ha _ ((h.offer f).of_length_lt short).popFrame

theorem State.queueFits.request (h : s.queueFits 45) {α : Type} {kind : Byte} {body : List Byte}
    {check : State → Except Status α} {act : α → State → State}
    (ha : ∀ a (u : State), u.queueFits 44 → check u = .ok a → (act a u).queueFits 45) :
    (s.request kind body check act).queueFits 45 :=
  State.request_keeps h (h.offer _)
    (fun short e => ((h.offer _).of_length_lt short).popFrame.reply kind e [])
    fun short a passed => ha a _ ((h.offer _).of_length_lt short).popFrame passed

theorem State.queueFits.requestIf (h : s.queueFits 45) {α : Type} {own : Bool} {kind : Byte} {body : List Byte}
    {check : State → Except Status α} {act : α → State → State}
    (ha : ∀ a (u : State), u.queueFits 44 → check u = .ok a → (act a u).queueFits 45) :
    (s.requestIf own kind body check act).queueFits 45 :=
  State.requestIf_keeps h fun _ => h.request ha

theorem State.queueFits.whenRunning (h : s.queueFits k) {act : State → State} (ha : (act s).queueFits k) :
    (s.whenRunning act).queueFits k := by
  unfold State.whenRunning; split
  · exact ha
  · exact h

theorem State.queueFits.atExpiry (h : s.queueFits k) {timer : Option Nat} {act : State → State}
    (ha : ∀ e, (act (s.reach e)).queueFits k) : (s.atExpiry timer act).queueFits k := by
  unfold State.atExpiry; split
  · exact ha _
  · exact h

/-! ### The line -/

theorem State.queueFits.receiverTo (h : s.queueFits k) (r : Receiver) : (s.receiverTo r).queueFits k := h.congr rfl rfl rfl

theorem State.queueFits.receiveFault (h : s.queueFits k) : s.receiveFault.queueFits k := (h.receiverTo _).raiseDevice _

theorem State.queueFits.takeByte (h : s.queueFits k) (b : Byte) : (s.takeByte b).queueFits k := by
  unfold State.takeByte; split
  · split
    · exact h.receiverTo _
    · exact h
  · split
    · exact h.receiverTo _
    · exact h.receiveFault
  · split <;> exact h.receiverTo _
  · split
    · exact h.receiveFault
    · split
      · exact (h.receiverTo _).frameComplete _
      · exact h.receiveFault

theorem State.queueFits.receiveByte (h : s.queueFits k) (b : Byte) (low : Bool) : (s.receiveByte b low).queueFits k := by
  unfold State.receiveByte; split
  · split
    · exact h
    · exact h.receiveFault
  · exact h.takeByte b

/-- The records once the FETCH of a tag is under transmission (R55). -/
def announceTag (tag : Nat) (rs : List Record) : List Record :=
  rs.map fun r => if r.tag = tag then { r with announcePending := false } else r

/-- The start of a FETCH announces one record at most, tags being distinct (R47, R55). -/
theorem announced_announceTag_le (tag : Nat) {rs : List Record} (tags : (rs.map Record.tag).Nodup) :
    announced (announceTag tag rs) ≤ announced rs + 1 := by
  induction rs with
  | nil => exact Nat.zero_le _
  | cons r rs ih =>
    have cons : ∀ (x : Record) l, announced (x :: l) = (if x.announcePending then 0 else 1) + announced l := fun x l => by
      cases p : x.announcePending <;> simp [announced, p]; omega
    obtain ⟨fresh, rest⟩ := List.nodup_cons.mp tags
    have head : announceTag tag (r :: rs) =
        (if r.tag = tag then { r with announcePending := false } else r) :: announceTag tag rs := rfl
    rw [head, cons, cons]
    by_cases named : r.tag = tag
    · have others : announceTag tag rs = rs :=
        (List.map_congr_left fun x hx => if_neg fun same =>
          fresh (List.mem_map.mpr ⟨x, hx, same.trans named.symm⟩)).trans (List.map_id rs)
      rw [others, if_pos named]; split <;> simp <;> omega
    · rw [if_neg named]; have := ih rest; omega

theorem State.queueFits.startFrame (h : s.queueFits 45) {f : TxFrame} {q : List TxFrame} (front : s.tx.queue = f :: q) :
    (s.startFrame f q).queueFits 45 := by
  have calls : callsOnce q := h.calls.sublist (front ▸ List.sublist_cons_self f q)
  have load := h.load
  rw [front, plainCount_cons] at load
  have sent : ({ s with tx := { queue := q, sending := some ⟨f.line s.groupField, 5 * (f.line s.groupField).length⟩ } }.announce
      f).queueFits 45 := by
    cases f with
    | fetch d =>
      have once := announced_announceTag_le d.tag h.pool.1
      refine ⟨h.pool.map (g := fun r => if r.tag = d.tag then { r with announcePending := false } else r) fun r => ?_,
        calls, ?_⟩
      · split <;> exact ⟨rfl, rfl, rfl⟩
      · change plainCount q + announced (announceTag d.tag s.pool.records) + 5 ≤ 45
        simp only [TxFrame.isPlain, if_true] at load
        omega
    | hello _ | drop _ _ | gate _ _ _ | note | reply _ _ =>
      refine ⟨h.pool, calls, ?_⟩
      change plainCount q + announced s.pool.records + 5 ≤ 45
      omega
  unfold State.startFrame; dsimp only; split
  · exact sent.arbitrate (by omega)
  · exact sent

/-! ### RESTART, LIMITS, PLAYCTL and CLOSE -/

theorem State.queueFits.applyLimits (h : s.queueFits k) (r : LimitsReq) (ok : limitsRangesOk r = true) :
    (s.applyLimits r).queueFits k := by
  have written : (s.writeLimits r).queueFits k := by
    simp only [limitsRangesOk, Bool.and_eq_true, decide_eq_true_eq] at ok
    obtain ⟨tags, range, length, next, next', -, -, kinds⟩ := h.pool
    exact ⟨⟨tags, range, length, next, next', ok.1.1.2.2.2.2.1, ok.1.1.2.2.2.2.2.1, kinds⟩, h.calls, h.load⟩
  have loaded : ((s.writeLimits r).loadStart r.startEstimate).queueFits k := by
    unfold State.loadStart; split
    · exact written
    · exact written.withEst _
  unfold State.applyLimits; dsimp only; split
  · exact loaded.recomputeUsable
  · split
    · exact loaded.reallocate
    · exact loaded

theorem Except.ok_of_ite {ε α : Type} {c : Prop} [Decidable c] {a b : α} {e : ε}
    (h : (if c then Except.ok a else .error e) = .ok b) : c ∧ a = b := by
  split at h
  · rename_i holds; cases h; exact ⟨holds, rfl⟩
  · cases h

theorem limitsRangesOk_of_parseLimits {body : List Byte} {r : LimitsReq} (h : parseLimits body = .ok r) :
    limitsRangesOk r = true := by
  unfold parseLimits at h
  split at h
  · obtain ⟨ok, rfl⟩ := Except.ok_of_ite h
    exact ok.1
  · cases h

/-- A pool with no records is sound. -/
theorem State.poolSound.emptied (h : s.poolSound) : (s.setRecords []).poolSound := h.sublist (List.nil_sublist _)

theorem State.queueFits.closeAll (h : s.queueFits k) : s.closeAll.queueFits k := by
  refine State.queueFits.forSlots (s := { s with
    pool := { s.pool with records := [] }, arb := { s.arb with rotation := 3, probeRotation := 3 } }) ?_
    fun m _ hu => hu.modStream m _
  refine ⟨h.pool.emptied.congr rfl rfl, h.calls, ?_⟩
  exact le_trans (Nat.add_le_add_right (Nat.add_le_add_left (Nat.zero_le _) _) _) h.load

theorem State.queueFits.resetLink (h : s.queueFits k) : s.resetLink.queueFits k := by
  refine State.queueFits.forSlots (s := { s with
    est := Estimator.reset s.now, cls := Classifier.reset, sharing := Sharing.reset, arb := Arbiter.reset,
    dev := DeviceFlags.reset }) ?_ fun m _ hu => hu.setStream m _
  obtain ⟨tags, range, length, next, next', -, -, kinds⟩ := h.pool
  exact ⟨⟨tags, range, length, next, next', show 1 ≤ Arbiter.reset.slotLimit by decide,
    show Arbiter.reset.slotLimit ≤ 8 by decide, kinds⟩, h.calls, h.load⟩

/-- An emptied queue leaves all its places. -/
theorem State.queueFits.setQueue_nil (h : s.queueFits k) (few : s.pool.records = []) : (s.setQueue []).queueFits 5 :=
  ⟨h.pool, ⟨fun _ => Nat.zero_le _, Nat.zero_le _⟩, by
    rw [State.setQueue_pool, few]; exact le_refl 5⟩

theorem State.queueFits.playAct (h : s.queueFits k) : (s.playAct n).queueFits k := by
  unfold State.playAct; split
  · exact (((h.modStream n _).modStream n _).reallocate).readinessTest n
  · split
    · exact (h.modStream n _).readinessTest n
    · exact h.enterPlaying n _
  all_goals exact h

theorem State.queueFits.pauseAct (h : s.queueFits k) : (s.pauseAct n).queueFits k := by
  unfold State.pauseAct; split
  · exact h
  · exact (h.leavePlaying n _).modStream n _

theorem State.queueFits.emptyStream (h : s.queueFits k) (d : DropReason) (g : GateReason) :
    (s.emptyStream n d g).queueFits k :=
  ((((h.dropStream n d).modStream n _).reevaluate n).modStream n _).leavePlaying n g

theorem State.queueFits.seekAct (h : s.queueFits k) : (s.seekAct n).queueFits k :=
  ((((h.emptyStream n _ _).modStream n _).modStream n _).reallocateIf _).readinessTest n

theorem State.queueFits.stopAct (h : s.queueFits k) : (s.stopAct n).queueFits k :=
  ((h.emptyStream n _ _).modStream n _).reallocateIf _

theorem State.queueFits.closeAct (h : s.queueFits k) : (s.closeAct n).queueFits k :=
  (((h.dropStream n _).leavePlaying n _).modStream n _).reallocateIf _

/-! ### Reports -/

theorem State.queueFits.countBytes (h : s.queueFits k) (b : Nat) : (s.countBytes b).queueFits k := h.withEst _

theorem State.queueFits.landAct (h : s.queueFits k) (r : Record) (bytes : Nat) : (s.landAct r bytes).queueFits k := by
  have moved : ((((s.countBytes (bytes - r.reported)).freeRecord r.tag).landEntry r.slot r.segment r.rung
      bytes).contiguousMove r.slot).queueFits k :=
    (((h.countBytes _).freeRecord _).modStream _ _).contiguousMove _
  unfold State.landAct State.landingReported; dsimp only; split
  · exact moved.modStream _ _
  · exact (moved.modStream _ _).probeSuccess _ _

theorem State.queueFits.breakAct (h : s.queueFits k) (r : Record) : (s.breakAct r).queueFits k := by
  unfold State.breakAct; dsimp only; split
  · exact (h.freeRecord _).failEntry _ _
  · exact (((h.freeRecord _).returnEntry _ _).windowChanged _).probeFailure _

/-- Live records dropped one after the other (R118): each is still live when its turn comes, tags being distinct. -/
theorem State.queueFits.failProbes {rs : List Record} (d : DropReason) (tags : (rs.map Record.tag).Nodup) :
    ∀ {s : State}, s.queueFits k → (∀ r ∈ rs, r ∈ s.pool.records) →
      (rs.foldl (fun s r => s.failProbe r d) s).queueFits k := by
  induction rs with
  | nil => exact fun h _ => h
  | cons r rs ih =>
    intro s h mem
    obtain ⟨fresh, rest⟩ := List.nodup_cons.mp tags
    refine ih rest (h.failProbe (mem r List.mem_cons_self) d) fun x hx => ?_
    rw [State.failProbe_records]
    have differs : x.tag ≠ r.tag := fun same => fresh (List.mem_map.mpr ⟨x, hx, same⟩)
    exact List.mem_filter.mpr ⟨mem x (List.mem_cons_of_mem _ hx), by simpa using differs⟩

theorem State.probesToDrop_perm (s : State) : s.probesToDrop.Perm (s.pool.records.filter fun r => !r.isNormal) :=
  freeOrder_perm _ _

theorem State.queueFits.enterJammed (h : s.queueFits k) : s.enterJammed.queueFits k := by
  have clamped := (h.forSlots (act := fun n s => s.fall n (s.floor n)) fun m _ hu => hu.fall m _).forSlots
    (act := fun n s => s.modStream n fun st => { st with probePending := false }) fun m _ hu => hu.modStream m _
  unfold State.enterJammed; dsimp only
  generalize ((s.forSlots fun n s => s.fall n (s.floor n)).forSlots fun n s =>
    s.modStream n fun st => { st with probePending := false }) = u at clamped
  have order := u.probesToDrop_perm
  refine State.queueFits.failProbes .zone ?_ (clamped.congr rfl rfl rfl) fun r hr => ?_
  · exact (order.map _).nodup_iff.mpr ((List.filter_sublist.map _).nodup clamped.pool.1)
  · exact (List.mem_filter.mp (order.subset hr)).1

theorem State.queueFits.toZone (h : s.queueFits k) (z : Zone) : (s.toZone z).queueFits k :=
  (h.withCls { s.cls with zone := z }).raiseDeviceIf _ _

theorem State.queueFits.zoneRise (h : s.queueFits k) (z : Zone) : (s.zoneRise z).queueFits k := by
  have risen : ({ s with cls := { s.cls with dwellTimer := none } }.toZone z).queueFits k := (h.withCls _).toZone z
  have fallen : ∀ {u : State}, u.queueFits k → u.crowdedFall.queueFits k := fun hu => hu.forSlots fun m _ hv => hv.fall m _
  have entered : ∀ {u : State}, u.queueFits k → (if z = .jammed then u.enterJammed else u).queueFits k := fun hu => by
    split
    · exact hu.enterJammed
    · exact hu
  refine entered ?_
  split
  · exact fallen risen
  · exact risen

theorem State.queueFits.zoneTold (h : s.queueFits k) (was : Zone) : (s.zoneTold was).queueFits k := by
  unfold State.zoneTold; split
  · exact h
  · split
    · exact h.forSlots fun m _ hu => hu.modStream m _
    · split
      · exact h.forSlots fun m _ hu => hu.modStream m _
      · exact h

theorem State.queueFits.classify (h : s.queueFits k) (raw : Zone) : (s.classify raw).queueFits k := by
  unfold State.classify; dsimp only; split
  · exact (h.withCls _).zoneRise raw
  · exact (h.withCls _).withCls _

theorem State.queueFits.linkAct (h : s.queueFits k) (r : LinkReq) : (s.linkAct r).queueFits k := by
  have told : (((s.sagStep r.rtt).classify (s.cls.rawLevel r.retry r.airtime)).zoneTold s.cls.zone).queueFits k :=
    (((h.withEst { s.est with sagTrim := s.est.trimAfter r.rtt }).raiseDeviceIf _ _).classify _).zoneTold _
  unfold State.linkAct State.linkUsable; split
  · exact told
  · exact told.recomputeUsable

/-! ### Timers -/

theorem State.queueFits.stallProbe (h : s.queueFits k) : (s.stallProbe n).queueFits k := by
  unfold State.stallProbe; split
  · rename_i found; exact h.failProbe (State.mem_of_probeRecord n found).1 _
  · exact h

theorem State.queueFits.rescue (h : s.queueFits k) : (s.rescue n).queueFits k := by
  unfold State.rescue; split
  · rename_i found
    split
    · exact (h.dropToWaiting (State.mem_of_normalRecord n found).1 _).modStream n _
    · exact h
  · exact h

theorem State.queueFits.drainAct (h : s.queueFits k) : (s.drainAct n).queueFits k := by
  have drained := (h.modStream n Stream.drained).reevaluate n
  unfold State.drainAct State.drainEnd; dsimp only; split
  · split
    · exact (((drained.leavePlaying n _).modStream n _).raise n _).reallocate
    · exact (((((drained.leavePlaying n _).modStream n _).raise n _).fall n _).stallProbe n).rescue n
  · exact drained

theorem State.mem_of_recordOf {tag : Nat} {r : Record} (h : s.recordOf tag = some r) : r ∈ s.pool.records :=
  List.mem_of_find?_eq_some h

theorem State.queueFits.expireNormal (h : s.queueFits k) {r : Record} (mem : r ∈ s.pool.records) :
    (s.expireNormal r).queueFits k :=
  (((h.dropRecord mem _).failEntry _ _).raise _ _).fall _ _

theorem State.queueFits.sampleAct (h : s.queueFits k) : s.sampleAct.queueFits k := by
  unfold State.sampleAct; dsimp only; split
  · exact h.withEst _
  · exact (h.withEst _).recomputeUsable

theorem State.queueFits.dwellAct (h : s.queueFits k) : s.dwellAct.queueFits k :=
  (((h.withCls _).toZone _).zoneTold _).recomputeUsable

theorem State.queueFits.envelopeAct (h : s.queueFits k) (hk : 34 ≤ k) : (s.envelopeAct n).queueFits k := by
  unfold State.envelopeAct; split
  · exact h.modStream n _
  · exact h.modStream n _
  · dsimp only
    split
    · exact ((h.modStream n _).modStream n _).arbitrate hk
    · exact h.modStream n _
  · exact h

end Sys2Proof.Machine
end

section
namespace Sys2Proof.Machine

/-! ### The commands -/

theorem State.reset_queueFits : State.reset.queueFits 45 := by
  refine ⟨⟨List.nodup_nil, nofun, ?_⟩, ⟨fun n => Nat.zero_le _, Nat.zero_le _⟩, ?_⟩ <;> decide

theorem State.closeAll_pool (s : State) : s.closeAll.pool = { s.pool with records := [] } :=
  State.forSlots_keeps State.pool _ (fun _ _ => rfl) _

theorem State.resetLink_pool (s : State) : s.resetLink.pool = s.pool :=
  State.forSlots_keeps State.pool _ (fun _ _ => rfl) _

/-- A record changes in fields that neither the pool's soundness nor the load reads. -/
theorem State.queueFits.changeRecord {s : State} {k : Nat} (h : s.queueFits k) (tag : Nat) {g : Record → Record}
    (hg : ∀ r, (g r).tag = r.tag ∧ (g r).slot = r.slot ∧ (g r).kind = r.kind ∧
      (g r).announcePending = r.announcePending) : (s.changeRecord tag g).queueFits k := by
  have each : ∀ r : Record, (if r.tag = tag then g r else r).tag = r.tag ∧ (if r.tag = tag then g r else r).slot = r.slot ∧
      (if r.tag = tag then g r else r).kind = r.kind ∧
      (if r.tag = tag then g r else r).announcePending = r.announcePending := fun r => by
    split
    · exact hg r
    · exact ⟨rfl, rfl, rfl, rfl⟩
  have same : announced (s.changeRecord tag g).pool.records = announced s.pool.records := by
    rw [State.changeRecord_records, announced, List.filter_map, List.length_map]
    exact congrArg List.length (List.filter_congr fun r _ => by simp [(each r).2.2.2])
  exact ⟨h.pool.map fun r => ⟨(each r).1, (each r).2.1, (each r).2.2.1⟩, h.calls, same.symm ▸ h.load⟩

theorem State.queueFits.exec {s t : State} (h : s.queueFits 45) (c : Instr) (run : exec c s = .next t) : t.queueFits 45 := by
  have room : 34 ≤ 44 := by decide
  have room' : 34 ≤ 45 := by decide
  cases c with
  | nrstAssert => obtain rfl := Host.Outcome.next.inj run; exact h.congr rfl rfl rfl
  | nrstRelease =>
    obtain rfl := Host.Outcome.next.inj run
    split
    · exact h.congr rfl rfl rfl
    · exact h
  | timeBaseStart =>
    obtain rfl := Host.Outcome.next.inj run
    split
    · exact State.reset_queueFits.congr rfl rfl rfl
    · exact h
  | receiveByte b low => obtain rfl := Host.Outcome.next.inj run; exact h.whenRunning (h.receiveByte b low)
  | gapTimerExpiry =>
    obtain rfl := Host.Outcome.next.inj run
    exact h.whenRunning (h.atExpiry fun e => (h.reach e).receiveFault)
  | unknownKindRequest kind body =>
    obtain rfl := Host.Outcome.next.inj run
    split
    · exact h
    · exact h.takeRequest fun _ hu => hu.reply _ _ _
  | transmitStart =>
    obtain rfl := Host.Outcome.next.inj run
    refine h.whenRunning ?_
    split
    · rename_i front; exact h.startFrame front
    · exact h
    · exact h
  | transmitComplete => obtain rfl := Host.Outcome.next.inj run; exact h.whenRunning (h.congr rfl rfl rfl)
  | ident body => obtain rfl := Host.Outcome.next.inj run; exact h.request fun _ _ hu _ => hu.reply _ _ _
  | restartStreams body =>
    obtain rfl := Host.Outcome.next.inj run
    exact h.requestIf fun _ _ hu _ => (hu.closeAll.sublist List.filter_sublist).reply _ _ _
  | restartAll body =>
    obtain rfl := Host.Outcome.next.inj run
    refine h.requestIf fun _ u hu _ => ?_
    have emptied := hu.closeAll.resetLink.setQueue_nil (by rw [State.resetLink_pool, State.closeAll_pool])
    exact State.queueFits.mono (State.queueFits.pushPlain (emptied.reply _ _ _) rfl) (by decide)
  | limits body =>
    obtain rfl := Host.Outcome.next.inj run
    exact h.request fun r _ hu passed =>
      ((hu.applyLimits r (limitsRangesOk_of_parseLimits passed)).arbitrate room).reply _ _ _
  | mask body =>
    obtain rfl := Host.Outcome.next.inj run
    exact h.request fun r _ hu _ => (State.queueFits.noteIfTurned
      (State.queueFits.forSlots (hu.withDev _) fun m _ hv => hv.modStream m _) _).reply _ _ _
  | flags body =>
    obtain rfl := Host.Outcome.next.inj run
    exact h.request fun _ _ hu _ => (State.queueFits.forSlots (hu.withDev _) fun m _ hv => hv.modStream m _).reply _ _ _
  | queryStream body => obtain rfl := Host.Outcome.next.inj run; exact h.requestIf fun _ _ hu _ => hu.reply _ _ _
  | queryLink body => obtain rfl := Host.Outcome.next.inj run; exact h.requestIf fun _ _ hu _ => hu.reply _ _ _
  | queryRecord body => obtain rfl := Host.Outcome.next.inj run; exact h.requestIf fun _ _ hu _ => hu.reply _ _ _
  | openSlot body =>
    obtain rfl := Host.Outcome.next.inj run; exact h.request fun r _ hu _ => (hu.modStream r.slot _).reply _ _ _
  | tune body =>
    obtain rfl := Host.Outcome.next.inj run; exact h.request fun r _ hu _ => (hu.modStream r.slot _).reply _ _ _
  | ladder body =>
    obtain rfl := Host.Outcome.next.inj run; exact h.request fun r _ hu _ => (hu.modStream r.slot _).reply _ _ _
  | append body =>
    obtain rfl := Host.Outcome.next.inj run
    exact h.request fun r _ hu _ => (((hu.modStream r.slot _).windowChanged _).arbitrate room).reply _ _ _
  | play body =>
    obtain rfl := Host.Outcome.next.inj run
    exact h.requestIf fun r _ hu _ => ((hu.playAct r.slot).arbitrate room).reply _ _ _
  | pause body =>
    obtain rfl := Host.Outcome.next.inj run; exact h.requestIf fun r _ hu _ => (hu.pauseAct r.slot).reply _ _ _
  | seek body =>
    obtain rfl := Host.Outcome.next.inj run
    exact h.requestIf fun r _ hu _ => ((hu.seekAct r.slot).settle room _).reply _ _ _
  | stop body =>
    obtain rfl := Host.Outcome.next.inj run
    exact h.requestIf fun r _ hu _ => ((hu.stopAct r.slot).settle room _).reply _ _ _
  | close body =>
    obtain rfl := Host.Outcome.next.inj run
    refine h.request fun n u hu _ => ?_
    dsimp only
    split
    · exact ((hu.closeAct n).arbitrate room).reply _ _ _
    · exact (hu.closeAct n).reply _ _ _
  | position body =>
    obtain rfl := Host.Outcome.next.inj run
    exact h.request fun r _ hu _ => (((hu.modStream r.1 _).windowChanged _).settle room _).reply _ _ _
  | probe body =>
    obtain rfl := Host.Outcome.next.inj run
    exact h.request fun n _ hu _ => ((hu.modStream n _).arbitrate room).reply _ _ _
  | tally body =>
    obtain rfl := Host.Outcome.next.inj run
    exact h.request fun q _ hu _ => ((hu.countBytes _).changeRecord q.1.tag fun _ => by exact ⟨rfl, rfl, rfl, rfl⟩).reply _ _ _
  | landed body =>
    obtain rfl := Host.Outcome.next.inj run
    exact h.request fun q _ hu _ => ((hu.landAct q.1 q.2).arbitrate room).reply _ _ _
  | broken body =>
    obtain rfl := Host.Outcome.next.inj run
    exact h.request fun r _ hu _ => ((hu.breakAct r).arbitrate room).reply _ _ _
  | link body =>
    obtain rfl := Host.Outcome.next.inj run
    exact h.request fun r _ hu _ => ((hu.linkAct r).settle room _).reply _ _ _
  | startTimerExpiry n =>
    obtain rfl := Host.Outcome.next.inj run
    refine h.whenRunning (h.atExpiry fun e => ?_)
    have raised : (((s.reach e).modStream n fun st => { st with startTimer := none }).raise n .startLate).queueFits 45 :=
      ((h.reach e).modStream n _).raise n _
    dsimp only
    split
    · exact raised.modStream n _
    · exact raised.enterPlaying n _
  | stallTimerExpiry n =>
    obtain rfl := Host.Outcome.next.inj run
    exact h.whenRunning (h.atExpiry fun e => (((h.reach e).modStream n _).raise n _).fall n _)
  | drainStep n =>
    obtain rfl := Host.Outcome.next.inj run
    exact h.whenRunning (h.atExpiry fun e => ((h.reach e).drainAct n).settle room' _)
  | deadlineExpiry tag =>
    obtain rfl := Host.Outcome.next.inj run
    refine h.whenRunning ?_
    split
    · rename_i found
      split
      · exact ((h.reach _).expireNormal (by rw [State.reach_pool]; exact State.mem_of_recordOf found)).arbitrate room'
      · exact h
    · exact h
  | probeDeadlineExpiry tag =>
    obtain rfl := Host.Outcome.next.inj run
    refine h.whenRunning ?_
    split
    · rename_i found
      split
      · exact h
      · exact ((h.reach _).failProbe (by rw [State.reach_pool]; exact State.mem_of_recordOf found) _).arbitrate room'
    · exact h
  | sampleTimerExpiry =>
    obtain rfl := Host.Outcome.next.inj run
    exact h.whenRunning (h.atExpiry fun e => (h.reach e).sampleAct)
  | dwellExpiry =>
    obtain rfl := Host.Outcome.next.inj run
    exact h.whenRunning (h.atExpiry fun e => (h.reach e).dwellAct)
  | envelopeStepExpiry n =>
    obtain rfl := Host.Outcome.next.inj run
    exact h.whenRunning (h.atExpiry fun e => (h.reach e).envelopeAct n room')

theorem State.queueFits.idle {s : State} {k : Nat} (h : s.queueFits k) : s.idle.queueFits k := by
  unfold State.idle State.passTime
  split
  · split
    · split
      · split <;> exact h.congr rfl rfl rfl
      · exact h.congr rfl rfl rfl
    · exact h.congr rfl rfl rfl
  · exact h

end Sys2Proof.Machine

open Sys2Proof Sys2Proof.Machine

/-- Settles O60: the load, stated over the frames that are neither GATE nor NOTE, is kept by every operation; a request is
taken with fewer than 32 frames queued, which leaves room for its reply, and a grant made with at most 20. -/
theorem everyStepKeepsTheQueueWithinItsFrames : Obligations.EveryStepKeepsTheQueueWithinItsFrames := by
  refine ⟨fun s t h run => ?_, fun s h => ?_⟩
  · rw [State.queueSound_iff] at h ⊢
    rcases step_cases run with rfl | ⟨c, rest, -, run⟩
    · exact h.idle
    · have queued : ({ s with pending := rest } : State).queueFits 45 := h.congr rfl rfl rfl
      exact queued.exec c run
  · have fits := (State.queueSound_iff s).mp h
    have length := length_le_of_callsOnce fits.calls
    have load := fits.load
    omega

end

section
namespace Sys2Proof.Machine

/-! ## Writing streams and the queue: which writes come to the same -/

variable (s : State) (n : Slot)

@[simp] theorem State.setStream_setStream (a b : Stream) : (s.setStream n a).setStream n b = s.setStream n b := by
  unfold State.setStream
  simp only [Vector.set_set]

@[simp] theorem State.setStream_stream_self : s.setStream n (s.stream n) = s := by
  unfold State.setStream State.stream
  simp only [Vector.set_getElem_self]

theorem State.modStream_eq (f : Stream → Stream) : s.modStream n f = s.setStream n (f (s.stream n)) := rfl

@[simp] theorem State.modStream_modStream (f g : Stream → Stream) :
    (s.modStream n f).modStream n g = s.modStream n fun st => g (f st) := by
  rw [State.modStream_eq, State.stream_modStream_same, State.modStream_eq, State.setStream_setStream]; rfl

@[simp] theorem State.modStream_setStream (st : Stream) (f : Stream → Stream) :
    (s.setStream n st).modStream n f = s.setStream n (f st) := by
  rw [State.modStream_eq, State.stream_setStream_same, State.setStream_setStream]

theorem State.setQueue_modStream (q : List TxFrame) (f : Stream → Stream) :
    (s.setQueue q).modStream n f = (s.modStream n f).setQueue q := rfl

@[simp] theorem State.setQueue_setQueue (q q' : List TxFrame) : (s.setQueue q).setQueue q' = s.setQueue q' := rfl

@[simp] theorem State.setQueue_self : s.setQueue s.tx.queue = s := rfl

theorem State.reach_setStream (e : Nat) (st : Stream) : (s.setStream n st).reach e = (s.reach e).setStream n st := by
  unfold State.reach; split
  · rename_i early; rw [if_pos (show s.now < e from early)]; rfl
  · rename_i late; rw [if_neg (show ¬s.now < e from late)]

/-- Two states with the same streams, slot by slot, hold the same vector of streams. -/
theorem State.streams_eq {s t : State} (h : ∀ m, t.stream m = s.stream m) : t.streams = s.streams := by
  ext i hi : 1
  exact h ⟨i, hi⟩

theorem State.pushGate_modStream (o : Bool) (r : GateReason) (f : Stream → Stream) :
    (s.pushGate n o r).modStream n f = (s.modStream n f).pushGate n o r := by
  rw [State.pushGate_eq, State.pushGate_eq]; rfl

/-! ## Flags (R176, R178) -/

/-- A field of flags calls where a flag is set that its mask lets through (R178). -/
theorem unmasked_ne_zero_iff {w : Nat} (flags mask : BitVec w) :
    (flags &&& ~~~mask != 0) = true ↔ ∃ i : Nat, flags.getLsbD i = true ∧ mask.getLsbD i = false := by
  rw [bne_iff_ne]
  constructor
  · intro calls
    by_contra none
    refine calls (BitVec.eq_of_getLsbD_eq fun i hi => ?_)
    have masked : flags.getLsbD i = true → mask.getLsbD i = true := fun set => by
      by_contra unmasked; exact none ⟨i, set, by simpa using unmasked⟩
    cases set : flags.getLsbD i <;> simp_all
  · rintro ⟨i, set, unmasked⟩ zero
    have bit : (flags &&& ~~~mask).getLsbD i = false := by rw [zero]; exact BitVec.getLsbD_zero
    rw [BitVec.getLsbD_and, BitVec.getLsbD_not, set, unmasked, decide_eq_true (BitVec.lt_of_getLsbD set)] at bit
    cases bit

theorem State.deviceCalls_iff :
    s.deviceCalls = true ↔ ∃ i : Nat, s.dev.flags.getLsbD i = true ∧ s.dev.mask.getLsbD i = false :=
  unmasked_ne_zero_iff _ _

theorem Stream.calls_iff (st : Stream) :
    st.calls = true ↔ ∃ i : Nat, st.flags.getLsbD i = true ∧ st.mask.getLsbD i = false :=
  unmasked_ne_zero_iff _ _

theorem State.summary_iff : s.summary = true ↔ s.deviceCalls = true ∨ ∃ m, (s.stream m).calls = true := by
  have all : (slots.any fun m => (s.stream m).calls) = true ↔ ∃ m, (s.stream m).calls = true := by
    rw [List.any_eq_true]
    exact ⟨fun ⟨m, _, h⟩ => ⟨m, h⟩, fun ⟨m, h⟩ => ⟨m, by fin_cases m <;> decide, h⟩⟩
  rw [State.summary, Bool.or_eq_true, all]

/-- The summary reads the flags and masks alone. -/
theorem State.summary_congr {s t : State} (dev : t.dev = s.dev)
    (streams : ∀ m, (t.stream m).flags = (s.stream m).flags ∧ (t.stream m).mask = (s.stream m).mask) :
    t.summary = s.summary := by
  have same : ∀ m, (t.stream m).calls = (s.stream m).calls := fun m => by
    rw [Stream.calls, Stream.calls, (streams m).1, (streams m).2]
  rw [Bool.eq_iff_iff, State.summary_iff, State.summary_iff]
  simp only [same, State.deviceCalls, dev]

/-- The NOTE that a change calls for depends on the two summaries and on whether a NOTE waits. -/
theorem noteFor_congr {s t s' t' : State} (before : s'.summary = s.summary) (after : t'.summary = t.summary)
    (waiting : s'.noteWaiting = s.noteWaiting) : noteFor s' t' = noteFor s t := by
  unfold noteFor; rw [before, after, waiting]

@[simp] theorem noteFor_self : noteFor s s = [] := by simp +contextual [noteFor]

/-- A flag of a stream raised: the flag set, the NOTE it calls for queued (R176, R178). -/
theorem State.raise_eq (f : StreamFlag) :
    s.raise n f = (s.setStream n { s.stream n with flags := withFlag (s.stream n).flags f.bit }).setQueue
      (s.tx.queue ++ noteFor s (s.setStream n { s.stream n with flags := withFlag (s.stream n).flags f.bit })) := by
  unfold State.raise
  split
  · rename_i set
    rw [withFlag_of_set set]
    change s = (s.setStream n (s.stream n)).setQueue (s.tx.queue ++ noteFor s (s.setStream n (s.stream n)))
    rw [State.setStream_stream_self, noteFor_self, List.append_nil, State.setQueue_self]
  · exact State.noteIfTurned_eq_setQueue rfl

/-- A raise and a change of other fields of the stream than flags and mask come in either order. -/
theorem State.raise_modStream (f : StreamFlag) {g : Stream → Stream} (flags : ∀ st, (g st).flags = st.flags)
    (mask : ∀ st, (g st).mask = st.mask) (apart : ∀ st fl, g { st with flags := fl } = { g st with flags := fl }) :
    (s.modStream n g).raise n f = (s.raise n f).modStream n g := by
  have note : noteFor (s.modStream n g) ((s.modStream n g).setStream n
        { g (s.stream n) with flags := withFlag (s.stream n).flags f.bit }) =
      noteFor s (s.setStream n { s.stream n with flags := withFlag (s.stream n).flags f.bit }) := by
    refine noteFor_congr (State.summary_congr rfl fun m => ?_) (State.summary_congr rfl fun m => ?_) rfl
    · rw [State.stream_modStream]; split
      · exact ⟨flags _, mask _⟩
      · exact ⟨rfl, rfl⟩
    · simp only [State.stream_setStream, State.stream_modStream]; split
      · exact ⟨rfl, mask _⟩
      · exact ⟨rfl, rfl⟩
  rw [State.raise_eq, State.raise_eq, State.stream_modStream_same, flags, note, State.setQueue_modStream,
    State.modStream_setStream, apart (s.stream n) (withFlag (s.stream n).flags f.bit),
    State.modStream_eq, State.setStream_setStream]
  rfl

/-! ### The waiting GATE (R23) -/

theorem replaceGate_append {m : Slot} {f g : TxFrame} {a b : List TxFrame} (gate : g.isGateOf m = true)
    (first : a.all (fun x => !x.isGateOf m) = true) : replaceGate m f (a ++ g :: b) = a ++ f :: b := by
  induction a with
  | nil => exact if_pos gate
  | cons x a ih =>
    simp only [List.all_cons, Bool.and_eq_true, Bool.not_eq_true'] at first
    simp only [List.cons_append, replaceGate, first.1, Bool.false_eq_true, if_false]
    rw [ih (by simpa using first.2)]

end Sys2Proof.Machine

open Sys2Proof Sys2Proof.Machine

/-- Settles O50: the raises by their equations, the GATE by the place of the first waiting GATE of its slot. -/
theorem flagsCallTheHostAndGatesReplace : Obligations.FlagsCallTheHostAndGatesReplace := by
  refine ⟨fun s n f => s.raise_eq n f, fun s f => s.raiseDevice_eq f, fun s => ?_, fun s n o r => ⟨?_, ?_⟩⟩
  · rw [State.summary_iff, State.deviceCalls_iff]
    simp only [Stream.calls_iff]
  · intro a g b queue gate first
    have waits : s.tx.queue.any (TxFrame.isGateOf n) = true := by rw [queue]; simp [gate]
    rw [State.pushGate, if_pos waits, queue, replaceGate_append gate first]
    rfl
  · intro none
    have absent : ¬s.tx.queue.any (TxFrame.isGateOf n) = true := by simpa using none
    rw [State.pushGate, if_neg absent]
    rfl

end

section
namespace Sys2Proof.Machine

/-! ## Re-evaluation and the readiness test (R14, R79, R82) -/

theorem WindowEntry.not_isWaiting (e : WindowEntry) : (!e.isWaiting) = decide (e.state ≠ .waiting) := by
  unfold WindowEntry.isWaiting
  cases e.state <;> rfl

theorem Stream.fillCount_eq (st : Stream) :
    st.fillCount = st.buffer.length + (st.window.filter fun e => decide (e.state ≠ .waiting)).length := by
  unfold Stream.fillCount
  simp only [WindowEntry.not_isWaiting]

/-- The readiness of a stream, spelled out (R14). -/
theorem Stream.ready_iff (st : Stream) :
    st.ready = true ↔
      (st.state = .starting ∧ ((st.buffer ≠ [] ∧ (st.cfg.start ≤ st.occupancy ∨ st.overdue = true)) ∨
        (st.finalKnown = true ∧ st.window = []))) ∨
      (st.state = .rebuffering ∧ ((st.buffer ≠ [] ∧ (st.cfg.resume ≤ st.occupancy ∨ st.hold = true)) ∨
        (st.finalKnown = true ∧ st.window = []))) := by
  unfold Stream.ready
  cases st.state <;> simp

/-- With nothing buffered a stream is ready only at the end of what it is to play (R14). -/
theorem Stream.not_ready_of_empty {st : Stream} (buffer : st.buffer = []) (more : st.finalKnown = false ∨ st.window ≠ []) :
    st.ready = false := by
  rw [Bool.eq_false_iff, ne_eq, Stream.ready_iff]
  rintro (⟨-, ⟨filled, -⟩ | ⟨final, empty⟩⟩ | ⟨-, ⟨filled, -⟩ | ⟨final, empty⟩⟩)
  · exact filled buffer
  · rcases more with more | more
    · simp [more] at final
    · exact more empty
  · exact filled buffer
  · rcases more with more | more
    · simp [more] at final
    · exact more empty

variable {s : State} {n : Slot}

theorem State.readinessTest_of_not_ready (h : (s.stream n).ready = false) : s.readinessTest n = s := by
  rw [State.readinessTest, h]; exact if_neg Bool.false_ne_true

theorem State.readinessTest_of_ready (h : (s.stream n).ready = true) :
    s.readinessTest n = s.enterPlaying n (s.stream n).readyReason := if_pos h

theorem State.enterPlaying_eq (r : GateReason) :
    s.enterPlaying n r = (s.modStream n fun st =>
      { st with
        state := .playing, gate := true, startTimer := none, stallTimer := none, overdue := false,
        drainTimer := some (s.now + 10) }).pushGate n true r := rfl

/-! ## Timer expiries -/

theorem State.whenRunning_of_running (h : s.phase = .running) (act : State → State) : s.whenRunning act = act s := if_pos h

/-- With the time base running, the expiry of a running timer acts at its time. -/
theorem State.expiry_of_some {timer : Option Nat} {e : Nat} (running : s.phase = .running) (h : timer = some e)
    (act : State → State) : (Host.Outcome.next (s.whenRunning fun s => s.atExpiry timer act) : Out) = .next (act (s.reach e)) := by
  rw [State.whenRunning_of_running running, h]; rfl

/-- A stopped timer does not expire. -/
theorem State.expiry_of_none {timer : Option Nat} (running : s.phase = .running) (h : timer = none) (act : State → State) :
    (Host.Outcome.next (s.whenRunning fun s => s.atExpiry timer act) : Out) = .next s := by
  rw [State.whenRunning_of_running running, h]; rfl

theorem State.restartedStep_of_ne_jammed (h : s.cls.zone ≠ .jammed) (st : Stream) (c : Nat) :
    s.restartedStep st c = if c < st.ladder.length - 1 then some (s.now + st.cfg.envelopePeriod) else none := by
  simp [State.restartedStep, Stream.top, h]

theorem Stream.hasLadder_iff (st : Stream) : st.hasLadder = true ↔ st.ladder ≠ [] := by simp [Stream.hasLadder]

/-- A ceiling fall of a stream with a ladder (R142). -/
theorem State.fall_of_ladder (h : (s.stream n).ladder ≠ []) (named : Nat) :
    s.fall n named = s.modStream n fun st => { st with
      ceiling := min st.ceiling named, probePending := false,
      stepTimer := s.restartedStep st (min st.ceiling named) } := by
  unfold State.fall
  rw [State.modStream_eq, if_pos ((Stream.hasLadder_iff _).mpr h)]
  rfl

theorem Stream.autoProbeDue_iff (st : Stream) :
    st.autoProbeDue = true ↔ st.cfg.autoProbe = true ∧ st.state = .playing ∧ st.probePending = false ∧
      st.probeLive = false ∧ st.current < st.ladder.length - 1 ∧ st.cfg.target ≤ st.occupancy := by
  simp only [Stream.autoProbeDue, Bool.and_eq_true, beq_iff_eq, Bool.not_eq_true', decide_eq_true_eq, and_assoc]
  exact Iff.rfl

/-- An expiry of the envelope step timer in CROWDED (R145, R149). -/
theorem State.envelopeAct_of_crowded (h : s.cls.zone = .crowded) :
    s.envelopeAct n =
      if (s.stream n).autoProbeDue then
        ((s.modStream n fun st => { st with stepTimer := s.restartedStep st st.ceiling }).modStream n fun st =>
          { st with probePending := true }).arbitrate
      else s.modStream n fun st => { st with stepTimer := s.restartedStep st st.ceiling } := by
  unfold State.envelopeAct; rw [h]

end Sys2Proof.Machine

open Sys2Proof Sys2Proof.Machine

/-- Settles O45: the margin and the hold are those of R79 and R82, and the readiness test reads the re-evaluated stream. -/
theorem windowChangeReevaluatesTheStream : Obligations.WindowChangeReevaluatesTheStream := by
  intro s n st b count ref margin hold atEnd starts resumes t playing
  have same_margin : st.marginLevel = margin := rfl
  have same_hold : st.holdEval = hold := by
    unfold Stream.holdEval
    rw [Stream.fillCount_eq]
    rfl
  have reevaluated : s.reevaluate n = t := by
    unfold State.reevaluate
    dsimp only
    rw [State.modStream_eq]
    change (s.setStream n { st with margin := st.marginLevel, hold := st.holdEval }).raiseIf
      (st.marginLevel != st.margin) n .margin = t
    rw [same_hold, same_margin]
  have now : t.now = s.now := reevaluated ▸ (s.reevaluate_blocks n).now
  have stream := reevaluated ▸ s.reevaluate_stream n
  have ready : (t.stream n).ready = true ↔ starts ∨ resumes := by
    rw [Stream.ready_iff, stream, same_hold]; exact Iff.rfl
  have opens : (t.stream n).ready = true → s.windowChanged n = playing.pushGate n true (t.stream n).readyReason := by
    intro isReady
    rw [State.windowChanged, reevaluated, State.readinessTest_of_ready isReady, State.enterPlaying_eq, now]
  have reason : (t.stream n).readyReason = st.readyReason := by rw [stream]; rfl
  refine ⟨reevaluated, fun h => ?_, fun h => ?_, fun hs hr => ?_⟩
  · rw [opens (ready.mpr (.inl h)), reason, Stream.readyReason, h.1]
  · rw [opens (ready.mpr (.inr h)), reason, Stream.readyReason, h.1]
  · rw [State.windowChanged, reevaluated]
    exact State.readinessTest_of_not_ready (Bool.eq_false_iff.mpr fun isReady => (ready.mp isReady).elim hs hr)

/-- Settles O41: each timer's act, the raise moved before the change of the timer, which it does not touch. -/
theorem streamTimersExpire : Obligations.StreamTimersExpire := by
  intro s n running st
  have start_raised : ∀ e, ((s.reach e).modStream n fun st => { st with startTimer := none }).raise n .startLate =
      ((s.reach e).raise n .startLate).modStream n fun st => { st with startTimer := none } := fun e =>
    State.raise_modStream _ _ _ (fun _ => rfl) (fun _ => rfl) fun _ _ => rfl
  have stall_raised : ∀ e, ((s.reach e).modStream n fun st => { st with stallTimer := none }).raise n .stallLong =
      ((s.reach e).raise n .stallLong).modStream n fun st => { st with stallTimer := none } := fun e =>
    State.raise_modStream _ _ _ (fun _ => rfl) (fun _ => rfl) fun _ _ => rfl
  have buffer_reached : ∀ e, ((s.reach e).stream n).buffer = st.buffer := fun e => by rw [State.reach_stream]
  refine ⟨fun e timer buffer => ?_, fun e timer buffer => ?_, fun timer => State.expiry_of_none running timer _,
    fun e timer ladder => ?_, fun timer => State.expiry_of_none running timer _, fun e timer quiet => ?_,
    fun e timer crowded => ?_, fun timer => State.expiry_of_none running timer _⟩
  · refine (State.expiry_of_some running timer _).trans (congrArg _ ?_)
    dsimp only
    rw [if_pos ((buffer_reached e).trans buffer), start_raised, State.modStream_modStream]
  · refine (State.expiry_of_some running timer _).trans (congrArg _ ?_)
    dsimp only
    rw [if_neg (by rw [buffer_reached]; exact buffer), start_raised, State.enterPlaying_eq, State.modStream_modStream,
      State.modStream_now, (State.raise_blocks _ _ _).now]
  · refine (State.expiry_of_some running timer _).trans (congrArg _ ?_)
    have held : ((((s.reach e).raise n .stallLong).modStream n fun st => { st with stallTimer := none }).stream n).ladder ≠
        [] := by
      rw [State.stream_modStream_same, State.raise_stream, if_pos rfl, State.reach_stream]; exact ladder
    have raised := (s.reach e).raise_blocks n .stallLong
    rw [stall_raised, State.fall_of_ladder held, State.modStream_modStream]
    simp only [Nat.min_zero, State.restartedStep, Stream.top, State.modStream_cls, State.modStream_now, raised.cls,
      raised.now, State.reach_cls]
  · refine (State.expiry_of_some running timer _).trans (congrArg _ ?_)
    have zone : (s.reach e).cls.zone ≠ .jammed := by
      rw [State.reach_cls]; rcases quiet with quiet | quiet <;> rw [quiet] <;> exact nofun
    have act : (s.reach e).envelopeAct n = (s.reach e).modStream n fun st =>
        { st with ceiling := st.ceiling + 1, stepTimer := (s.reach e).restartedStep st (st.ceiling + 1) } := by
      unfold State.envelopeAct
      rw [State.reach_cls]; rcases quiet with quiet | quiet <;> rw [quiet]
    rw [act, State.modStream_eq, State.reach_stream, State.restartedStep_of_ne_jammed zone]
  · have zone : (s.reach e).cls.zone = .crowded := by rw [State.reach_cls, crowded]
    have act : exec (.envelopeStepExpiry n) s = .next ((s.reach e).envelopeAct n) := State.expiry_of_some running timer _
    rw [act, State.envelopeAct_of_crowded zone]
    dsimp only
    rw [State.reach_stream, State.modStream_modStream, State.modStream_eq, State.modStream_eq, State.reach_stream,
      State.restartedStep_of_ne_jammed (by rw [zone]; exact nofun)]
    by_cases due : st.autoProbeDue = true
    · rw [if_pos due, if_pos (st.autoProbeDue_iff.mp due)]
    · rw [if_neg due, if_neg fun spelled => due (st.autoProbeDue_iff.mpr spelled)]

end

section
namespace Sys2Proof.Machine

/-! ## Bytes and fields (R175) -/

@[simp] theorem beBytes_two (n : Nat) : beBytes 2 n = [byte (n / 256), byte n] := by simp [beBytes, byte]

@[simp] theorem beBytes_three (n : Nat) : beBytes 3 n = [byte (n / 65536), byte (n / 256), byte n] := by simp [beBytes, byte]

@[simp] theorem beBytes_four (n : Nat) :
    beBytes 4 n = [byte (n / 16777216), byte (n / 65536), byte (n / 256), byte n] := by simp [beBytes, byte]

theorem byte_toNat (n : Nat) : (byte n).toNat = n % 256 := by simp [byte]

theorem beNat_one {n : Nat} (h : n < 256) : beNat [byte n] = n := by
  simp only [beNat, List.foldl_cons, List.foldl_nil, byte_toNat]; omega

theorem beNat_two {n : Nat} (h : n < 65536) : beNat [byte (n / 256), byte n] = n := by
  simp only [beNat, List.foldl_cons, List.foldl_nil, byte_toNat]; omega

theorem beNat_three {n : Nat} (h : n < 16777216) : beNat [byte (n / 65536), byte (n / 256), byte n] = n := by
  simp only [beNat, List.foldl_cons, List.foldl_nil, byte_toNat]; omega

theorem beNat_four {n : Nat} (h : n < 4294967296) :
    beNat [byte (n / 16777216), byte (n / 65536), byte (n / 256), byte n] = n := by
  simp only [beNat, List.foldl_cons, List.foldl_nil, byte_toNat]; omega

@[simp] theorem beNat_boolByte_eq_one (b : Bool) : decide (beNat [boolByte b] = 1) = b := by cases b <;> rfl

@[simp] theorem beNat_boolByte_le_one (b : Bool) : beNat [boolByte b] ≤ 1 := by cases b <;> decide

@[simp] theorem field_zero_succ (b : Byte) (bs : List Byte) (len : Nat) :
    field (b :: bs) 0 (len + 1) = beNat (b :: bs.take len) := rfl

@[simp] theorem field_succ (b : Byte) (bs : List Byte) (off len : Nat) : field (b :: bs) (off + 1) len = field bs off len := rfl

@[simp] theorem toSlot_val (n : Slot) : toSlot n.val = some n := by
  unfold toSlot; rw [dif_pos n.isLt]

@[simp] theorem beNat_slot (n : Slot) : beNat [byte n.val] = n.val := beNat_one (by omega)

/-! ## The bodies of the requests read back (O10) -/

theorem parseOpen_shortOpenBody (n : Slot) {p : Nat} (hp : p ≤ 3) :
    parseOpen (shortOpenBody n p) = .ok ⟨n, openConfig p 0 0 2000 4000 12000 20000 30000⟩ := by
  have ok : openRangesOk (openConfig p 0 0 2000 4000 12000 20000 30000) = true := by
    simp [openRangesOk, openConfig, hp]
  simp (disch := omega) [parseOpen, shortOpenBody, openFields, beNat_one, ok]

theorem parseOpen_openBody (n : Slot) {p g st a b c d e : Nat} (ok : openRangesOk (openConfig p g st a b c d e) = true) :
    parseOpen (openBody ⟨n, openConfig p g st a b c d e⟩) = .ok ⟨n, openConfig p g st a b c d e⟩ := by
  have ranges := of_decide_eq_true ok
  simp only [openConfig] at ranges
  have fields : openFields (openBody ⟨n, openConfig p g st a b c d e⟩) = openConfig p g st a b c d e := by
    simp (disch := omega) [openFields, openBody, openConfig, beNat_one, beNat_three]
  have slot : toSlot (field (openBody ⟨n, openConfig p g st a b c d e⟩) 0 1) = some n := by simp [openBody]
  have length : (openBody ⟨n, openConfig p g st a b c d e⟩).length = 19 := by simp [openBody]
  simp [parseOpen, length, slot, fields, ok]

theorem parseTune_tuneBody {r : TuneReq} (ok : tuneRangesOk r = true) : parseTune (tuneBody r) = .ok r := by
  have ranges := of_decide_eq_true ok
  simp (disch := omega) [parseTune, tuneBody, beNat_one, beNat_two, ok]

theorem parsePlayctl_playctlBody (n : Slot) (a : PlayAction) : parsePlayctl (playctlBody n a) = .ok ⟨n, a⟩ := by
  have action : toAction (beNat [PlayAction.code a]) = some a := by cases a <;> rfl
  simp [parsePlayctl, playctlBody, action]

theorem parseSlot_byte (n : Slot) : parseSlot [byte n.val] = .ok n := by simp [parseSlot]

theorem parsePosition_positionBody {r : PositionReq} (segment : r.segment < 2 ^ 32) (offset : r.offset ≤ 9999) :
    parsePosition (positionBody r) = .ok r := by
  simp (disch := omega) [parsePosition, positionBody, beNat_two, beNat_four, offset]

theorem parseCount_countBody {r : CountReq} (tag : r.tag < 256) (bytes : r.bytes < 2 ^ 32) :
    parseCount (countBody r) = .ok r := by
  simp (disch := omega) [parseCount, countBody, beNat_one, beNat_four]

theorem parseBroken_brokenBody {tag reason : Nat} (ht : tag < 256) (one : 1 ≤ reason) (four : reason ≤ 4) :
    parseBroken (brokenBody tag reason) = .ok tag := by
  simp (disch := omega) [parseBroken, brokenBody, beNat_one, one, four]

theorem parseLink_linkBody {r : LinkReq} (one : 1 ≤ r.rtt) (rtt : r.rtt ≤ 5000) (retry : r.retry ≤ 1000)
    (airtime : r.airtime ≤ 100) : parseLink (linkBody r) = .ok r := by
  simp (disch := omega) [parseLink, linkBody, beNat_one, beNat_two, one, rtt, retry, airtime]

theorem parseLimits_limitsBody {r : LimitsReq} (ok : limitsRangesOk r = true) (hp : ∀ p, r.protect = some p → p ≤ 3) :
    parseLimits (limitsBody r) = .ok r := by
  have ranges := ok
  simp only [limitsRangesOk, thresholdsOk, Bool.and_eq_true, decide_eq_true_eq] at ranges
  have protect : r.protect.getD 4 ≤ 4 := by
    cases h : r.protect with
    | none => exact le_refl 4
    | some p => exact (hp p h).trans (by decide)
  have read : (if r.protect.getD 4 ≤ 3 then some (r.protect.getD 4) else none) = r.protect := by
    cases h : r.protect with
    | none => rfl
    | some p => exact if_pos (hp p h)
  simp (disch := omega) [parseLimits, limitsBody, beNat_one, beNat_two, beNat_three, read, ok, protect]

theorem parseMask_maskBody (r : MaskReq) : parseMask (maskBody r) = .ok r := by
  have device : r.device.toNat < 16 := r.device.isLt
  have s0 : r.stream[0].toNat < 2048 := r.stream[0].isLt
  have s1 : r.stream[1].toNat < 2048 := r.stream[1].isLt
  have s2 : r.stream[2].toNat < 2048 := r.stream[2].isLt
  have s3 : r.stream[3].toNat < 2048 := r.stream[3].isLt
  have streams : #v[r.stream[0], r.stream[1], r.stream[2], r.stream[3]] = r.stream := by
    ext i hi : 1
    interval_cases i <;> rfl
  simp (disch := omega) [parseMask, maskBody, beNat_one, beNat_two, device, s0, s1, s2, s3, streams]

/-! ### LADDER and APPEND, whose bodies are lists -/

theorem parseRungs_bytes {l : List Rung} (rates : ∀ g ∈ l, g.rate < 2 ^ 24 ∧ g.init < 2 ^ 24) :
    parseRungs l.length (l.flatMap fun g => beBytes 3 g.rate ++ beBytes 3 g.init) = l := by
  induction l with
  | nil => rfl
  | cons g l ih =>
    obtain ⟨rate, init⟩ := rates g List.mem_cons_self
    have rest := ih fun x hx => rates x (List.mem_cons_of_mem _ hx)
    simpa (disch := omega) [parseRungs, beNat_three] using rest

theorem length_rungBytes (l : List Rung) :
    (l.flatMap fun g => beBytes 3 g.rate ++ beBytes 3 g.init).length = 6 * l.length := by
  induction l with
  | nil => rfl
  | cons g l ih => rw [List.flatMap_cons, List.length_append, ih]; simp; omega

theorem parseLadder_ladderBody {r : LadderReq} (one : 1 ≤ r.rungs.length) (ten : r.rungs.length ≤ 10)
    (ok : rungsOk r.rungs = true) : parseLadder (ladderBody r) = .ok r := by
  have rates : ∀ g ∈ r.rungs, g.rate < 2 ^ 24 ∧ g.init < 2 ^ 24 := fun g hg => by
    simp only [rungsOk, Bool.and_eq_true, List.all_eq_true, decide_eq_true_eq] at ok
    have := ok.1 g hg
    omega
  have length : (ladderBody r).length = 2 + 6 * r.rungs.length := by
    simp only [ladderBody, List.length_cons, length_rungBytes]; omega
  have slot : toSlot (field (ladderBody r) 0 1) = some r.slot := by simp [ladderBody]
  have rungs : field (ladderBody r) 1 1 = r.rungs.length := by
    simp (disch := omega) [ladderBody, beNat_one]
  have list : parseRungs r.rungs.length ((ladderBody r).drop 2) = r.rungs := parseRungs_bytes rates
  simp [parseLadder, length, one, ten, slot, rungs, list, ok]

theorem parseSizes_bytes {l : List Nat} (sizes : ∀ size ∈ l, size < 2 ^ 24) (rest : List Byte) :
    parseSizes l.length (l.flatMap (beBytes 3) ++ rest) = l := by
  induction l with
  | nil => rfl
  | cons size l ih =>
    have here := sizes size List.mem_cons_self
    have tail := ih fun x hx => sizes x (List.mem_cons_of_mem _ hx)
    rw [List.flatMap_cons, beBytes_three, List.length_cons]
    simp (disch := omega) [parseSizes, beNat_three, tail]

theorem length_sizeBytes (l : List Nat) : (l.flatMap (beBytes 3)).length = 3 * l.length := by
  induction l with
  | nil => rfl
  | cons size l ih => rw [List.flatMap_cons, List.length_append, ih]; simp; omega

/-- The walk takes one entry off the bytes and goes on behind it (R34). -/
theorem walkEntries_appendEntryBytes {e : AppendEntry} (k : Nat) (rest : List Byte) (segment : e.segment < 2 ^ 32)
    (duration : e.duration < 2 ^ 16) (count : e.sizes.length < 256) (sizes : ∀ size ∈ e.sizes, size < 2 ^ 24) :
    walkEntries (k + 1) (appendEntryBytes e ++ rest) = (walkEntries k rest).map fun w => (e :: w.1, w.2) := by
  have bytes : appendEntryBytes e ++ rest = byte (e.segment / 16777216) :: byte (e.segment / 65536) ::
      byte (e.segment / 256) :: byte e.segment :: byte (e.duration / 256) :: byte e.duration :: e.markers ::
      byte e.sizes.length :: (e.sizes.flatMap (beBytes 3) ++ rest) := by
    rw [appendEntryBytes, beBytes_four, beBytes_two]; rfl
  have markers : byte (beNat [e.markers]) = e.markers := by
    simp [byte, beNat, BitVec.ofNat_toNat]
  have long : ¬(e.sizes.flatMap (beBytes 3) ++ rest).length + 8 < 8 + 3 * e.sizes.length := by
    rw [List.length_append, length_sizeBytes]; omega
  have behind : (e.sizes.flatMap (beBytes 3) ++ rest).drop (3 * e.sizes.length) = rest := by
    rw [← length_sizeBytes, List.drop_left]
  have dropped : ∀ bs : List Byte, ∀ a b c d x y z w : Byte,
      (a :: b :: c :: d :: x :: y :: z :: w :: bs).drop (8 + 3 * e.sizes.length) = bs.drop (3 * e.sizes.length) := by
    intro bs a b c d x y z w
    rw [Nat.add_comm]; rfl
  rw [bytes, walkEntries]
  simp (disch := omega) only [field_succ, field_zero_succ, List.take_succ_cons, List.take_zero, beNat_one, beNat_two,
    beNat_four, markers, List.length_cons, dropped, behind, List.drop_succ_cons, List.drop_zero,
    parseSizes_bytes sizes]
  rw [if_neg (by omega)]
  cases walkEntries k rest <;> rfl

theorem walkEntries_bytes {es : List AppendEntry}
    (fits : ∀ e ∈ es, e.segment < 2 ^ 32 ∧ e.duration < 2 ^ 16 ∧ e.sizes.length < 256 ∧ ∀ size ∈ e.sizes, size < 2 ^ 24) :
    walkEntries es.length (es.flatMap appendEntryBytes) = some (es, []) := by
  induction es with
  | nil => rfl
  | cons e es ih =>
    obtain ⟨segment, duration, count, sizes⟩ := fits e List.mem_cons_self
    rw [List.flatMap_cons, List.length_cons, walkEntries_appendEntryBytes _ _ segment duration count sizes,
      ih fun x hx => fits x (List.mem_cons_of_mem _ hx), Option.map_some]

theorem parseAppend_appendBody {r : AppendReq} (ok : appendRanges r.entries = true)
    (fits : ∀ e ∈ r.entries, e.segment < 2 ^ 32 ∧ ∀ size ∈ e.sizes, size < 2 ^ 24) :
    parseAppend (appendBody r) = .ok r := by
  have ranges := ok
  simp only [appendRanges, Bool.and_eq_true, decide_eq_true_eq, List.all_eq_true] at ranges
  obtain ⟨⟨⟨count, entries⟩, -⟩, -⟩ := ranges
  have walk : walkEntries r.entries.length (r.entries.flatMap appendEntryBytes) = some (r.entries, []) :=
    walkEntries_bytes fun e he => ⟨(fits e he).1, by have := entries e he; omega, by have := entries e he; omega, (fits e he).2⟩
  have slot : toSlot (field (appendBody r) 0 1) = some r.slot := by simp [appendBody]
  have k : field (appendBody r) 1 1 = r.entries.length := by simp (disch := omega) [appendBody, beNat_one]
  have rest : (appendBody r).drop 2 = r.entries.flatMap appendEntryBytes := rfl
  have long : ¬(appendBody r).length < 2 := by simp [appendBody]
  rw [parseAppend, if_neg long, k, rest, walk]
  simp [slot, ok]

theorem parseQuery_stream (n : Slot) (p : StreamPart) (code : Byte) (h : toPart (beNat [code]) = some p) :
    parseQuery [1, byte n.val, code] = .ok (.stream n p) := by
  have view : beNat [1#8] = 1 := rfl
  simp [parseQuery, h, view]

theorem parseQuery_record {tag : Nat} (h : tag < 256) : parseQuery [3, byte tag] = .ok (.record tag) := by
  have view : beNat [3#8] = 3 := rfl
  simp [parseQuery, view, beNat_one h]

/-- The bits of a group field (R179). -/
theorem groupByte_bits : ∀ a b c d e : Bool,
    let g : Byte := boolByte a ||| boolByte b <<< 1 ||| boolByte c <<< 2 ||| boolByte d <<< 3 ||| boolByte e <<< 4
    g.getLsbD 0 = a ∧ g.getLsbD 1 = b ∧ g.getLsbD 2 = c ∧ g.getLsbD 3 = d ∧ g.getLsbD 4 = e ∧
      g.getLsbD 5 = false ∧ g.getLsbD 6 = false ∧ g.getLsbD 7 = false := by decide

end Sys2Proof.Machine

open Sys2Proof Sys2Proof.Machine

/-- Settles O10: one lemma for each request, the lists of LADDER and APPEND by induction. -/
theorem requestBodiesReadBackTheirFields : Obligations.RequestBodiesReadBackTheirFields :=
  ⟨fun n _ hp => parseOpen_shortOpenBody n hp, fun n _ _ _ _ _ _ _ _ ok => parseOpen_openBody n ok,
    fun _ ok => parseTune_tuneBody ok, fun _ one ten ok => parseLadder_ladderBody one ten ok,
    fun _ ok fits => parseAppend_appendBody ok fits, parsePlayctl_playctlBody, parseSlot_byte,
    fun _ segment offset => parsePosition_positionBody segment offset, fun _ tag bytes => parseCount_countBody tag bytes,
    fun _ _ tag one four => parseBroken_brokenBody tag one four,
    fun _ one rtt retry airtime => parseLink_linkBody one rtt retry airtime,
    fun _ ok hp => parseLimits_limitsBody ok hp, parseMask_maskBody, rfl, rfl,
    fun n => ⟨parseQuery_stream n .summary 0 rfl, parseQuery_stream n .window 1 rfl, parseQuery_stream n .buffer 2 rfl⟩,
    rfl, fun _ tag => parseQuery_record tag⟩

/-- Settles O3: the reset state is given by these values. -/
theorem resetHoldsThePowerOnValues : Obligations.ResetHoldsThePowerOnValues := by
  refine ⟨rfl, rfl, rfl, fun n => ?_, rfl, rfl, rfl, rfl, rfl, rfl, rfl⟩
  have closed : State.reset.stream n = Stream.closed := by fin_cases n <;> rfl
  rw [closed]
  decide

/-- Settles O9: the layouts and codes by computation, the fields of a FETCH by its body, the group field bit by bit. -/
theorem framesHaveTheirLayouts : Obligations.FramesHaveTheirLayouts := by
  refine ⟨by decide +kernel, by decide +kernel, fun _ => rfl, fun _ => rfl, fun _ _ _ => rfl, fun _ _ _ => rfl,
    fun _ _ _ => rfl, fun _ => rfl, fun _ _ => rfl, fun d tag segment rung rate init expected span => ?_,
    rfl, rfl, rfl, rfl, rfl, rfl, rfl, rfl, fun s => ?_⟩
  · simp (disch := omega) [FetchDirective.body, beNat_one, beNat_two, beNat_three, beNat_four]
    rfl
  · obtain ⟨bit0, bit1, bit2, bit3, bit4, bit5, bit6, bit7⟩ := groupByte_bits s.deviceCalls (s.stream 0).calls
      (s.stream 1).calls (s.stream 2).calls (s.stream 3).calls
    refine ⟨?_, fun n => ?_, fun k hk => ?_⟩
    · rw [← State.deviceCalls_iff, ← bit0]; rfl
    · rw [← Stream.calls_iff, Bool.eq_iff_iff.symm]
      fin_cases n
      · exact bit1
      · exact bit2
      · exact bit3
      · exact bit4
    · by_cases in_byte : k < 8
      · interval_cases k
        · exact bit5
        · exact bit6
        · exact bit7
      · exact BitVec.getLsbD_of_ge _ _ (by omega)

end

section
namespace Sys2Proof.Machine

/-! ## Requests at the door: their one outcome -/

variable {s : State} {n : Slot}

/-- A request that passes its checks, as its row runs it. -/
theorem State.next_request_of_ok {α : Type} {kind : Byte} {body : List Byte} {check : State → Except Status α}
    {act : α → State → State} {a : α} (h : s.atDoor ⟨kind, body⟩) (hc : check s.popFrame = .ok a) :
    (Host.Outcome.next (s.request kind body check act) : Out) = .next (act a s.popFrame) :=
  congrArg _ (State.request_of_ok h hc)

/-- A request that fails a check, as its row runs it: the reply to a kind below 0x80 is that kind plus 0x80 (R161). -/
theorem State.next_request_of_error {α : Type} {kind : Byte} {body : List Byte} {check : State → Except Status α}
    {act : α → State → State} {e : Status} (h : s.atDoor ⟨kind, body⟩) (hc : check s.popFrame = .error e) :
    (Host.Outcome.next (s.request kind body check act) : Out) =
      .next (s.popFrame.pushTx (.reply (replyKind kind) [e.code])) :=
  congrArg _ (State.request_of_error h hc)

theorem Stream.isOpen_iff (st : Stream) : st.isOpen = true ↔ st.state ≠ .closed := by simp [Stream.isOpen]

theorem State.openStream_of_open {α : Type} {read : Except Status α} {slot : α → Slot} {a : α} (parsed : read = .ok a)
    (opened : (s.stream (slot a)).state ≠ .closed) : s.openStream read slot = .ok a := by
  simp only [State.openStream, parsed]
  rw [if_pos ((Stream.isOpen_iff _).mpr opened)]

theorem State.checkPlayctl_eq (a : PlayAction) (opened : (s.stream n).state ≠ .closed) (allowed : Stream → Bool) :
    s.checkPlayctl (playctlBody n a) allowed = if allowed (s.stream n) then .ok ⟨n, a⟩ else .error .wrongState := by
  simp only [State.checkPlayctl,
    State.openStream_of_open (s := s) (slot := PlayctlReq.slot) (parsePlayctl_playctlBody n a) opened]

theorem playctlRow_playctlBody (n : Slot) (a : PlayAction) : playctlRow a (playctlBody n a) = true := by
  simp [playctlRow, parsePlayctl_playctlBody]

/-- A PLAYCTL that its state check accepts. -/
theorem State.next_playctl_of_allowed {a : PlayAction} {allowed : Stream → Bool} {act : PlayctlReq → State → State}
    (h : s.atDoor ⟨0x14, playctlBody n a⟩) (opened : (s.stream n).state ≠ .closed) (ok : allowed (s.stream n) = true) :
    (Host.Outcome.next (s.requestIf (playctlRow a (playctlBody n a)) 0x14 (playctlBody n a)
      (fun s => s.checkPlayctl (playctlBody n a) allowed) act) : Out) = .next (act ⟨n, a⟩ s.popFrame) := by
  rw [State.requestIf, playctlRow_playctlBody, if_pos rfl]
  refine State.next_request_of_ok h ?_
  rw [State.checkPlayctl_eq a (s := s.popFrame) opened]
  exact if_pos ok

/-- A PLAYCTL that its state check refuses (R10). -/
theorem State.next_playctl_of_refused {a : PlayAction} {allowed : Stream → Bool} {act : PlayctlReq → State → State}
    (h : s.atDoor ⟨0x14, playctlBody n a⟩) (opened : (s.stream n).state ≠ .closed) (no : allowed (s.stream n) = false) :
    (Host.Outcome.next (s.requestIf (playctlRow a (playctlBody n a)) 0x14 (playctlBody n a)
      (fun s => s.checkPlayctl (playctlBody n a) allowed) act) : Out) =
      .next (s.popFrame.pushTx (.reply 0x94 [0x05])) := by
  rw [State.requestIf, playctlRow_playctlBody, if_pos rfl]
  refine State.next_request_of_error (e := .wrongState) h ?_
  rw [State.checkPlayctl_eq a (s := s.popFrame) opened]
  exact if_neg (by rw [State.popFrame_stream, no]; exact Bool.false_ne_true)

end Sys2Proof.Machine

open Sys2Proof Sys2Proof.Machine

/-- Settles O16: closing every slot and purging the queue, each by what it changes. -/
theorem restartStreamsClosesEverySlot : Obligations.RestartStreamsClosesEverySlot := by
  intro s door
  have parsed : parseRestart [1] = .ok .streams := rfl
  refine ⟨(s.popFrame.closeAll.purge.reply 0x02 .ok []), ?_, ?_, fun n => ?_⟩
  · change Host.Outcome.next (s.requestIf (restartRow .streams [1]) 0x02 [1] _ _) = _
    rw [State.requestIf, if_pos (show restartRow .streams [1] = true from rfl)]
    exact State.next_request_of_ok door parsed
  · rfl
  · exact s.popFrame.closeAll_stream n

/-- Settles O24: the configuration an OPEN reads has the TUNE defaults (R4). -/
theorem openTakesAClosedSlotToIdle : Obligations.OpenTakesAClosedSlotToIdle := by
  intro s body r parsed door
  have check : s.popFrame.checkOpen body = if (s.stream r.slot).isOpen then .error .wrongState else .ok r := by
    rw [State.checkOpen, parsed]; rfl
  refine ⟨fun closed => ?_, fun opened => ?_⟩
  · have shut : (s.stream r.slot).isOpen = false := by simp [Stream.isOpen, closed]
    rw [shut] at check
    refine (State.next_request_of_ok (a := r) door check).trans ?_
    have defaults : r.cfg = { r.cfg with
        envelopePeriod := 2000, autoProbe := false, probeFactor := 8, deadlineFactor := 16, startTimeout := 10000,
        stallTimeout := 8000, playbackRate := 256 } := by
      rw [(openRangesOk_of_parseOpen parsed).1, openFields]
      split <;> rfl
    rw [← defaults]
    rfl
  · rw [if_pos ((Stream.isOpen_iff _).mpr opened)] at check
    exact State.next_request_of_error (check := fun s => s.checkOpen body) door check

/-- Settles O25: the tuned stream, with the lift where it is asked for and a ladder is held. -/
theorem tuneWritesTheTuning : Obligations.TuneWritesTheTuning := by
  intro s r ok opened door st
  refine (State.next_request_of_ok (a := r) door (State.openStream_of_open (parseTune_tuneBody ok) opened)).trans ?_
  have tuned : st.tuned r = { st with
      cfg := SlotConfig.tuned st.cfg r,
      ceiling := if r.lift = true ∧ st.ladder ≠ [] then st.ladder.length - 1 else st.ceiling,
      stepTimer := if r.lift = true ∧ st.ladder ≠ [] then none else st.stepTimer } := by
    unfold Stream.tuned Stream.lifted
    dsimp only
    by_cases lift : r.lift = true
    · by_cases ladder : st.ladder ≠ []
      · have held : ({ st with cfg := SlotConfig.tuned st.cfg r } : Machine.Stream).hasLadder = true :=
          (Stream.hasLadder_iff _).mpr ladder
        rw [if_pos lift, if_pos held, if_pos ⟨lift, ladder⟩, if_pos ⟨lift, ladder⟩]; rfl
      · have bare : ¬({ st with cfg := SlotConfig.tuned st.cfg r } : Machine.Stream).hasLadder = true :=
          fun held => ladder ((Stream.hasLadder_iff _).mp held)
        rw [if_pos lift, if_neg bare, if_neg fun both => ladder both.2, if_neg fun both => ladder both.2]
    · rw [if_neg lift, if_neg fun both => lift both.1, if_neg fun both => lift both.1]
  change Host.Outcome.next ((s.popFrame.setStream r.slot (st.tuned r)).reply 0x11 .ok []) = _
  rw [tuned]
  rfl

/-- Settles O26: the ladder's check by the state, the ladder and the window; the act writes the loaded stream. -/
theorem ladderLoadsInIdle : Obligations.LadderLoadsInIdle := by
  intro s body r parsed door st top
  have check : st.state ≠ .closed → s.popFrame.checkLadder body =
      if st.state = .idle ∧ (st.hasLadder = false ∨ st.window = []) then .ok r else .error .wrongState := fun opened => by
    simp only [State.checkLadder, State.openStream_of_open (s := s.popFrame) (slot := LadderReq.slot) parsed opened]
    rfl
  have bare : st.hasLadder = false ↔ st.ladder = [] := by simp [Stream.hasLadder]
  refine ⟨fun idle free => ?_, fun opened busy => ?_⟩
  · refine (State.next_request_of_ok (a := r) door ((check (by rw [idle]; exact nofun)).trans (if_pos ?_))).trans rfl
    exact ⟨idle, free.imp_left bare.mpr⟩
  · refine State.next_request_of_error (check := fun s => s.checkLadder body) door ((check opened).trans (if_neg ?_))
    rintro ⟨idle, free⟩
    rcases busy with notIdle | ⟨ladder, window⟩
    · exact notIdle idle
    · exact free.elim (fun h => ladder (bare.mp h)) window

/-- Settles O29: from PLAYING the gate closes first; the other states only change the stream. -/
theorem pauseSuspendsTheStream : Obligations.PauseSuspendsTheStream := by
  intro s n door st paused
  have accepted : st.active = true → exec (.pause (playctlBody n .pause)) s =
      .next ((s.popFrame.pauseAct n).replyState n) := fun active =>
    State.next_playctl_of_allowed door (by intro closed; simp [st, Stream.active, closed] at active) active
  have replied : ∀ {t u : State}, s.popFrame.pauseAct n = t → (t.stream n).state = .paused →
      u = t.pushTx (.reply 0x94 [0x00, 5]) → st.active = true →
      exec (.pause (playctlBody n .pause)) s = .next u := fun act state hu active => by
    rw [accepted active, act, hu, State.replyState, state]; rfl
  refine ⟨fun playing => ?_, fun waiting => ?_, fun already => ?_, fun refused => ?_⟩
  · have active : st.active = true := by simp [Stream.active, playing]
    have act : s.popFrame.pauseAct n = (s.popFrame.setStream n
        { paused with gate := false, drainTimer := none, probePending := false }).pushGate n false .pause := by
      rw [State.pauseAct, State.popFrame_stream, if_neg (by rw [show (s.stream n).state = _ from playing]; exact nofun),
        State.leavePlaying, State.popFrame_stream, if_pos playing, State.pushGate_modStream, State.modStream_modStream]
      rfl
    exact replied act (by rw [State.pushGate_stream, State.stream_setStream_same]) rfl active
  · have active : st.active = true := by rcases waiting with h | h <;> simp [Stream.active, h]
    have act : s.popFrame.pauseAct n = s.popFrame.setStream n paused := by
      rw [State.pauseAct, State.popFrame_stream, if_neg (by rcases waiting with h | h <;>
          rw [show (s.stream n).state = _ from h] <;> exact nofun),
        State.leavePlaying, State.popFrame_stream, if_neg (by rcases waiting with h | h <;>
          rw [show (s.stream n).state = _ from h] <;> exact nofun)]
      rfl
    exact replied act (by rw [State.stream_setStream_same]) rfl active
  · have active : st.active = true := by simp [Stream.active, already]
    exact replied (if_pos already) already rfl active
  · refine State.next_playctl_of_refused door ?_ ?_
    · rcases refused with h | h <;> rw [show (s.stream n).state = _ from h] <;> exact nofun
    · rcases refused with h | h <;> simp [Stream.pauseAllowed, Stream.active, show (s.stream n).state = _ from h]

end

section
namespace Sys2Proof.Machine

/-! ## What an arbitration leaves of the playback state (R14, R129)

A grant re-evaluates its stream, and the readiness test may then open the gate. It does not where the stream is not waiting to
play, or has nothing buffered and more to come. -/

/-- No grant makes the stream ready. -/
def Stream.Steady (st : Stream) : Prop :=
  (st.state ≠ .starting ∧ st.state ≠ .rebuffering) ∨ (st.buffer = [] ∧ (st.finalKnown = false ∨ st.window ≠ []))

theorem Stream.Steady.not_ready {st : Stream} (h : st.Steady) : st.ready = false := by
  rcases h with ⟨notStarting, notRebuffering⟩ | ⟨buffer, more⟩
  · rw [Bool.eq_false_iff, ne_eq, Stream.ready_iff]
    rintro (⟨starting, -⟩ | ⟨rebuffering, -⟩)
    · exact notStarting starting
    · exact notRebuffering rebuffering
  · exact Stream.not_ready_of_empty buffer more

/-- Each steady stream keeps its playback state and stays steady. -/
def State.KeepsSteady (s t : State) : Prop :=
  ∀ m, (s.stream m).Steady → (t.stream m).Steady ∧ (t.stream m).state = (s.stream m).state

theorem State.KeepsSteady.refl (s : State) : s.KeepsSteady s := fun _ h => ⟨h, rfl⟩

theorem State.KeepsSteady.trans {s t u : State} (a : s.KeepsSteady t) (b : t.KeepsSteady u) : s.KeepsSteady u := fun m h =>
  ⟨(b m (a m h).1).1, (b m (a m h).1).2.trans (a m h).2⟩

variable (s : State) (n : Slot)

theorem Stream.Steady.congr {a b : Stream} (h : a.Steady) (state : b.state = a.state) (buffer : b.buffer = a.buffer)
    (final : b.finalKnown = a.finalKnown) (window : b.window = [] ↔ a.window = []) : b.Steady := by
  unfold Stream.Steady at h ⊢
  rw [state, buffer, final, ne_eq, ne_eq, ne_eq, window]
  exact h

theorem State.modStream_keepsSteady {f : Stream → Stream} (h : ∀ st, (f st).state = st.state ∧ (f st).buffer = st.buffer ∧
    (f st).finalKnown = st.finalKnown ∧ ((f st).window = [] ↔ st.window = [])) : s.KeepsSteady (s.modStream n f) :=
  fun m steady => by
    rw [State.stream_modStream]; split
    · obtain ⟨state, buffer, final, window⟩ := h (s.stream m)
      exact ⟨steady.congr state buffer final window, state⟩
    · exact ⟨steady, rfl⟩

theorem State.KeepsSteady.of_streams {s t : State} (h : ∀ m, t.stream m = s.stream m) : s.KeepsSteady t := fun m steady => by
  rw [h m]; exact ⟨steady, rfl⟩

theorem State.raise_keepsSteady (f : StreamFlag) : s.KeepsSteady (s.raise n f) := fun m steady => by
  rw [State.raise_stream]; split
  · exact ⟨steady.congr rfl rfl rfl Iff.rfl, rfl⟩
  · exact ⟨steady, rfl⟩

theorem State.raiseIf_keepsSteady (c : Bool) (f : StreamFlag) : s.KeepsSteady (s.raiseIf c n f) := by
  unfold State.raiseIf; split
  · exact s.raise_keepsSteady n f
  · exact .refl s

theorem State.readinessTest_keepsSteady : s.KeepsSteady (s.readinessTest n) := fun m steady => by
  by_cases same : m = n
  · subst same
    rw [State.readinessTest_of_not_ready steady.not_ready]
    exact ⟨steady, rfl⟩
  · rw [s.readinessTest_elsewhere n m same]
    exact ⟨steady, rfl⟩

theorem State.reevaluate_keepsSteady : s.KeepsSteady (s.reevaluate n) := by
  have measured : s.KeepsSteady (s.modStream n fun st => { st with margin := st.marginLevel, hold := st.holdEval }) :=
    s.modStream_keepsSteady n fun _ => ⟨rfl, rfl, rfl, Iff.rfl⟩
  exact measured.trans (State.raiseIf_keepsSteady _ n _ _)

theorem State.windowChanged_keepsSteady : s.KeepsSteady (s.windowChanged n) :=
  (s.reevaluate_keepsSteady n).trans (State.readinessTest_keepsSteady _ n)

theorem State.makeRecord_keepsSteady (e : WindowEntry) (k : FetchKind) (rung : Nat) :
    s.KeepsSteady (s.makeRecord n e k rung) := fun m steady => by
  rw [State.makeRecord_stream]; split
  · exact ⟨steady.congr rfl rfl rfl List.map_eq_nil_iff, rfl⟩
  · exact ⟨steady, rfl⟩

theorem State.takeDecision_keepsSteady (r : Nat) : s.KeepsSteady (s.takeDecision n r) := by
  have decided : s.KeepsSteady (s.modStream n fun st => { st with current := r, rescuePending := false }) :=
    s.modStream_keepsSteady n fun _ => ⟨rfl, rfl, rfl, Iff.rfl⟩
  exact decided.trans (State.raiseIf_keepsSteady _ n _ _)

theorem State.grantNormal_keepsSteady : s.KeepsSteady (s.grantNormal n) := by
  unfold State.grantNormal; split
  · exact .refl s
  · refine .trans ?_ (State.windowChanged_keepsSteady _ n)
    exact ((s.takeDecision_keepsSteady n _).trans (State.makeRecord_keepsSteady _ n _ _ _)).trans (.of_streams fun _ => rfl)

theorem State.grantProbe_keepsSteady : s.KeepsSteady (s.grantProbe n) := by
  unfold State.grantProbe; split
  · exact .refl s
  · refine .trans ?_ (State.windowChanged_keepsSteady _ n)
    have probing : s.KeepsSteady (s.modStream n fun st => { st with probePending := false, probeLive := true }) :=
      s.modStream_keepsSteady n fun _ => ⟨rfl, rfl, rfl, Iff.rfl⟩
    exact (probing.trans (State.makeRecord_keepsSteady _ n _ _ _)).trans (.of_streams fun _ => rfl)

theorem State.grants_keepsSteady (k : Nat) : ∀ s : State, s.KeepsSteady (State.grants k s) := by
  induction k with
  | zero => exact .refl
  | succ k ih =>
    intro s
    unfold State.grants; split
    · split
      · exact (s.grantNormal_keepsSteady _).trans (ih _)
      · exact (s.grantProbe_keepsSteady _).trans (ih _)
      · exact .refl s
    · exact .refl s

theorem State.dryTest_keepsSteady (n : Slot) (s : State) : s.KeepsSteady (s.dryTest n) := by
  unfold State.dryTest; split
  · have tested : (s.raise n .windowDry).KeepsSteady
        ((s.raise n .windowDry).modStream n fun st => { st with dryArmed := false }) :=
      State.modStream_keepsSteady _ n fun _ => ⟨rfl, rfl, rfl, Iff.rfl⟩
    exact (s.raise_keepsSteady n _).trans tested
  · exact .refl s

theorem State.arbitrate_keepsSteady : s.KeepsSteady s.arbitrate :=
  (State.forSlots_rel (R := State.KeepsSteady) (fun a b => a.trans b) State.dryTest_keepsSteady s).trans
    (State.grants_keepsSteady _ _)

variable {s} {n}

/-- The reply with the state after an arbitration that a steady stream goes through (R10). -/
theorem State.arbitrate_replyState_of_steady (h : (s.stream n).Steady) :
    s.arbitrate.replyState n = s.arbitrate.pushTx (.reply 0x94 [0x00, (s.stream n).state.code]) := by
  rw [State.replyState, (s.arbitrate_keepsSteady n h).2]; rfl

end Sys2Proof.Machine

open Sys2Proof Sys2Proof.Machine

/-- Settles O28: the act by the stream's state; the stream is steady through the arbitration that follows. -/
theorem playStartsOrResumes : Obligations.PlayStartsOrResumes := by
  intro s n door st starting
  have accepted : st.playAllowed = true → exec (.play (playctlBody n .play)) s =
      .next (((s.popFrame.playAct n).arbitrate).replyState n) := fun allowed =>
    State.next_playctl_of_allowed door (by intro closed; simp [st, Stream.playAllowed, closed] at allowed) allowed
  have runs : ∀ {t : State} {code : Byte}, st.playAllowed = true → s.popFrame.playAct n = t → (t.stream n).Steady →
      (t.stream n).state.code = code →
      exec (.play (playctlBody n .play)) s = .next (t.arbitrate.pushTx (.reply 0x94 [0x00, code])) :=
    fun allowed act steady code => by
      rw [accepted allowed, act, State.arbitrate_replyState_of_steady steady, code]
  have of_paused : st.state = .paused → s.popFrame.playAct n =
      if st.buffer = [] then (s.popFrame.enterStarting n).readinessTest n else s.popFrame.enterPlaying n .resume :=
    fun paused => by rw [State.playAct, State.popFrame_stream, show (s.stream n).state = _ from paused]
  have enters : s.popFrame.enterStarting n = s.popFrame.setStream n starting := rfl
  have allowed_of_paused : st.state = .paused → st.playAllowed = true := fun paused => by simp [Stream.playAllowed, paused]
  refine ⟨fun idle ladder buffer more => ?_, fun paused buffer => ?_, fun paused buffer more => ?_,
    fun paused buffer final window => ?_, fun repeated => ?_, fun refused => ?_⟩
  · have steady : (((s.popFrame.setStream n
        { starting with
          prevGrant := none, acc := 0, landedThrough := none, probePending := false, probeLive := false,
          rescuePending := false, startLimit := true }).reallocate).stream n).Steady := by
      rw [State.reallocate_stream, State.stream_setStream_same]
      exact .inr ⟨buffer, .inl more⟩
    refine runs (by simp [Stream.playAllowed, idle, Stream.hasLadder, ladder]) ?_ steady ?_
    · rw [State.playAct, State.popFrame_stream, show (s.stream n).state = _ from idle]
      dsimp only
      rw [State.enterStarting, State.modStream_modStream]
      exact State.readinessTest_of_not_ready steady.not_ready
    · rw [State.reallocate_stream, State.stream_setStream_same]; rfl
  · refine runs (allowed_of_paused paused) ((of_paused paused).trans (if_neg buffer)) (.inl ?_) ?_ <;>
      simp only [State.pushGate_stream, State.stream_setStream_same]
    · exact ⟨nofun, nofun⟩
    · rfl
  · have steady : ((s.popFrame.setStream n starting).stream n).Steady := by
      rw [State.stream_setStream_same]; exact .inr ⟨buffer, more⟩
    refine runs (allowed_of_paused paused) ?_ steady (by rw [State.stream_setStream_same]; rfl)
    rw [of_paused paused, if_pos buffer, enters]
    exact State.readinessTest_of_not_ready steady.not_ready
  · have ready : ((s.popFrame.setStream n starting).stream n).ready = true := by
      rw [State.stream_setStream_same, Stream.ready_iff]
      exact .inl ⟨rfl, .inr ⟨final, window⟩⟩
    refine runs (allowed_of_paused paused) ?_ (.inl ?_) ?_
    · rw [of_paused paused, if_pos buffer, enters, State.readinessTest_of_ready ready, State.enterPlaying_eq,
        State.modStream_setStream, State.stream_setStream_same]
      rfl
    · simp only [State.pushGate_stream, State.stream_setStream_same]; exact ⟨nofun, nofun⟩
    · simp only [State.pushGate_stream, State.stream_setStream_same]; rfl
  · have allowed : st.playAllowed = true := by rcases repeated with h | h | h <;> simp [Stream.playAllowed, h]
    have act : s.popFrame.playAct n = s.popFrame := by
      rw [State.playAct, State.popFrame_stream]
      rcases repeated with h | h | h <;> rw [show (s.stream n).state = _ from h]
    rw [accepted allowed, act]; rfl
  · refine State.next_playctl_of_refused door ?_ ?_
    · rcases refused with ⟨h, -⟩ | h <;> rw [show (s.stream n).state = _ from h] <;> exact nofun
    · rcases refused with ⟨h, ladder⟩ | h
      · simp [Stream.playAllowed, show (s.stream n).state = _ from h, Stream.hasLadder, show (s.stream n).ladder = _ from ladder]
      · simp [Stream.playAllowed, show (s.stream n).state = _ from h]

end

section
namespace Sys2Proof.Machine

/-! ## The records of a stream, and their drops (R44, R49, R56) -/

variable {s t : State} (n : Slot)

/-- Tags name records (R47). -/
theorem State.poolSound.eq_of_tag (h : s.poolSound) {a b : Record} (ha : a ∈ s.pool.records) (hb : b ∈ s.pool.records)
    (same : a.tag = b.tag) : a = b :=
  List.inj_on_of_nodup_map h.1 ha hb same

theorem eq_of_mem_of_length_le_one {α : Type} {l : List α} (h : l.length ≤ 1) {a b : α} (ha : a ∈ l) (hb : b ∈ l) : a = b := by
  match l, h with
  | [x], _ => rw [List.mem_singleton.mp ha, List.mem_singleton.mp hb]

/-- A stream's live NORMAL or REFETCH record is the one that is found (R49). -/
theorem State.poolSound.normalRecord_eq (h : s.poolSound) {r : Record} (mem : r ∈ s.pool.records) (slot : r.slot = n)
    (normal : r.isNormal = true) : s.normalRecord n = some r := by
  have listed : r ∈ s.pool.records.filter fun r => r.slot == n && r.isNormal := List.mem_filter.mpr ⟨mem, by simp [slot, normal]⟩
  cases found : s.normalRecord n with
  | none => rw [State.normalRecord_none_iff.mp found] at listed; cases listed
  | some x =>
    obtain ⟨hx, slot', normal'⟩ := State.mem_of_normalRecord n found
    have listed' : x ∈ s.pool.records.filter fun r => r.slot == n && r.isNormal :=
      List.mem_filter.mpr ⟨hx, by simp [slot', normal']⟩
    rw [eq_of_mem_of_length_le_one (h.2.2.2.2.2.2.2 n).1 listed' listed]

theorem State.poolSound.probeRecord_eq (h : s.poolSound) {r : Record} (mem : r ∈ s.pool.records) (slot : r.slot = n)
    (probe : r.isNormal = false) : s.probeRecord n = some r := by
  have listed : r ∈ s.pool.records.filter fun r => r.slot == n && !r.isNormal := List.mem_filter.mpr ⟨mem, by simp [slot, probe]⟩
  cases found : s.probeRecord n with
  | none => rw [State.probeRecord_none_iff.mp found] at listed; cases listed
  | some x =>
    obtain ⟨hx, slot', probe'⟩ := State.mem_of_probeRecord n found
    have listed' : x ∈ s.pool.records.filter fun r => r.slot == n && !r.isNormal :=
      List.mem_filter.mpr ⟨hx, by simp [slot', probe']⟩
    rw [eq_of_mem_of_length_le_one (h.2.2.2.2.2.2.2 n).2 listed' listed]

/-- The records of a stream are its NORMAL or REFETCH record and its PROBE record (R49). -/
theorem State.poolSound.mem_recordsOf (h : s.poolSound) {r : Record} :
    r ∈ s.recordsOf n ↔ r ∈ s.pool.records ∧ r.slot = n := by
  simp only [State.recordsOf, List.mem_append, Option.mem_toList]
  constructor
  · rintro (found | found)
    · obtain ⟨mem, slot, -⟩ := State.mem_of_normalRecord n found; exact ⟨mem, slot⟩
    · obtain ⟨mem, slot, -⟩ := State.mem_of_probeRecord n found; exact ⟨mem, slot⟩
  · rintro ⟨mem, slot⟩
    cases kind : r.isNormal with
    | true => exact .inl (h.normalRecord_eq n mem slot kind)
    | false => exact .inr (h.probeRecord_eq n mem slot kind)

/-- The drop of a record of the other class leaves the PROBE record findable. -/
theorem State.probeRecord_of_filter {rs : List Record} (records : t.pool.records = s.pool.records.filter fun x => rs.all
    fun r => x.tag != r.tag) (others : ∀ x ∈ s.pool.records, x.isNormal = false → ∀ r ∈ rs, x.tag ≠ r.tag) :
    t.probeRecord n = s.probeRecord n := by
  unfold State.probeRecord
  rw [records, List.find?_filter]
  refine List.find?_congr fun x hx => ?_
  cases probe : x.isNormal with
  | true => simp
  | false =>
    have kept : (rs.all fun r => x.tag != r.tag) = true :=
      List.all_eq_true.mpr fun r hr => bne_iff_ne.mpr (others x hx probe r hr)
    rw [Bool.eq_iff_iff]
    simp [kept]

/-! ### One drop -/

theorem State.dropRecord_queue (s : State) (r : Record) (d : DropReason) :
    (s.dropRecord r d).tx.queue = queueAfterDrop s.tx.queue r d := by
  unfold State.dropRecord queueAfterDrop; dsimp only; split <;> rfl

theorem State.dropFor_records (s : State) (d : DropReason) (r : Option Record) :
    (s.dropFor n d r).pool.records = s.pool.records.filter fun x => r.toList.all fun y => x.tag != y.tag := by
  cases r with
  | none => simp [State.dropFor]
  | some r => simp [State.dropFor, State.returnEntry, State.dropRecord_records]

theorem State.dropFor_queue (s : State) (d : DropReason) (r : Option Record) :
    (s.dropFor n d r).tx.queue = r.toList.foldl (fun q r => queueAfterDrop q r d) s.tx.queue := by
  cases r with
  | none => rfl
  | some r => exact s.dropRecord_queue r d

theorem State.dropRecord_nextTag (s : State) (r : Record) (d : DropReason) :
    (s.dropRecord r d).pool.nextTag = s.pool.nextTag ∧ (s.dropRecord r d).arb = s.arb := by
  unfold State.dropRecord; dsimp only; split <;> exact ⟨rfl, rfl⟩

theorem State.dropFor_shell (s : State) (d : DropReason) (r : Option Record) :
    s.SameShell (s.dropFor n d r) ∧ (s.dropFor n d r).pool.nextTag = s.pool.nextTag ∧ (s.dropFor n d r).arb = s.arb := by
  cases r with
  | none => exact ⟨.refl s, rfl, rfl⟩
  | some r =>
    have returned : (s.dropRecord r d).SameShell ((s.dropRecord r d).returnEntry n r.segment) :=
      (State.modStream_blocks _ n _).toSameShell
    exact ⟨(s.dropRecord_shell r d).trans returned, s.dropRecord_nextTag r d⟩

/-! ### The drops of SEEK, STOP and CLOSE (R19, R21) -/

/-- After the drop of the NORMAL or REFETCH record the PROBE record is the one that was there. -/
theorem State.poolSound.probeRecord_dropFor (h : s.poolSound) (d : DropReason) :
    (s.dropFor n d (s.normalRecord n)).probeRecord n = s.probeRecord n := by
  refine State.probeRecord_of_filter n (s.dropFor_records n d _) fun x hx probe r hr same => ?_
  obtain ⟨mem, -, normal⟩ := State.mem_of_normalRecord n (Option.mem_toList.mp hr)
  rw [h.eq_of_tag hx mem same, normal] at probe
  cases probe

theorem State.poolSound.dropStream_records (h : s.poolSound) (d : DropReason) :
    (s.dropStream n d).pool.records = s.pool.records.filter fun r => r.slot != n := by
  unfold State.dropStream
  dsimp only
  rw [h.probeRecord_dropFor, State.dropFor_records, State.dropFor_records, List.filter_filter]
  refine List.filter_congr fun x hx => ?_
  rw [Bool.and_comm, ← List.all_append, Bool.eq_iff_iff, List.all_eq_true, bne_iff_ne]
  change (∀ r ∈ s.recordsOf n, (x.tag != r.tag) = true) ↔ x.slot ≠ n
  simp only [bne_iff_ne]
  constructor
  · exact fun all slot => all x ((h.mem_recordsOf n).mpr ⟨hx, slot⟩) rfl
  · intro slot r hr same
    obtain ⟨mem, slot'⟩ := (h.mem_recordsOf n).mp hr
    exact slot (h.eq_of_tag hx mem same ▸ slot')

theorem State.poolSound.dropStream_queue (h : s.poolSound) (d : DropReason) :
    (s.dropStream n d).tx.queue = s.queueAfterDrops n d := by
  unfold State.dropStream
  dsimp only
  rw [h.probeRecord_dropFor, State.dropFor_queue, State.dropFor_queue, State.queueAfterDrops, State.recordsOf,
    List.foldl_append]

theorem State.dropStream_shell (s : State) (d : DropReason) :
    s.SameShell (s.dropStream n d) ∧ (s.dropStream n d).pool.nextTag = s.pool.nextTag ∧ (s.dropStream n d).arb = s.arb := by
  obtain ⟨shell, tag, arb⟩ := s.dropFor_shell n d (s.normalRecord n)
  obtain ⟨shell', tag', arb'⟩ := (s.dropFor n d (s.normalRecord n)).dropFor_shell n d
    ((s.dropFor n d (s.normalRecord n)).probeRecord n)
  exact ⟨shell.trans shell', tag'.trans tag, arb'.trans arb⟩

/-- The previous grant memory after the drops (R51): lost to a withdrawal. -/
theorem State.poolSound.dropStream_prevGrant (h : s.poolSound) (d : DropReason) :
    ((s.dropStream n d).stream n).prevGrant =
      if (s.recordsOf n).any Record.announcePending then none else (s.stream n).prevGrant := by
  obtain ⟨w, first⟩ := s.dropFor_stream n d (r := s.normalRecord n) fun _ h => (State.mem_of_normalRecord n h).2.1
  obtain ⟨w', second⟩ := (s.dropFor n d (s.normalRecord n)).dropFor_stream n d (r := s.probeRecord n)
    fun _ h => (State.mem_of_probeRecord n h).2.1
  have any : ∀ r : Option Record, r.any Record.announcePending = r.toList.any Record.announcePending := fun r => by
    cases r <;> simp
  unfold State.dropStream
  dsimp only
  rw [h.probeRecord_dropFor, second, first]
  simp only [any, State.recordsOf, List.any_append]
  cases (s.normalRecord n).toList.any Record.announcePending <;>
    cases (s.probeRecord n).toList.any Record.announcePending <;> rfl

/-- Drops leave a waiting NOTE alone. -/
theorem any_isNote_queueAfterDrop (q : List TxFrame) (r : Record) (d : DropReason) :
    (queueAfterDrop q r d).any TxFrame.isNote = q.any TxFrame.isNote := by
  unfold queueAfterDrop; split
  · rw [Bool.eq_iff_iff, List.any_eq_true, List.any_eq_true]
    constructor
    · rintro ⟨f, hf, note⟩
      exact ⟨f, (List.mem_filter.mp hf).1, note⟩
    · rintro ⟨f, hf, note⟩
      have stays : (!f.isFetchOf r.tag) = true := by
        cases f with
        | note => rfl
        | _ => cases note
      exact ⟨f, List.mem_filter.mpr ⟨hf, stays⟩, note⟩
  · simp [TxFrame.isNote]

end Sys2Proof.Machine
end

section
namespace Sys2Proof.Machine

/-! ## SEEK, STOP and CLOSE (R19 to R21) -/

variable {s t : State} (n : Slot)

theorem noteWaiting_queueAfterDrops (s : State) (d : DropReason) :
    (s.queueAfterDrops n d).any TxFrame.isNote = s.noteWaiting := by
  unfold State.queueAfterDrops State.noteWaiting
  generalize s.tx.queue = q
  induction s.recordsOf n generalizing q with
  | nil => rfl
  | cons r rs ih => rw [List.foldl_cons, ih, any_isNote_queueAfterDrop]

/-- A change that raises nothing calls nothing (R178). -/
theorem noteFor_of_summary_eq (h : t.summary = s.summary) : noteFor s t = [] := by
  unfold noteFor
  rw [h, if_neg]
  rintro ⟨no, yes, -⟩
  rw [no] at yes
  cases yes

/-- The queue after a re-evaluation: the NOTE that MARGIN calls for, if any (R79, R178). -/
theorem State.reevaluate_queue (s : State) : (s.reevaluate n).tx.queue = s.tx.queue ++ noteFor s (s.reevaluate n) := by
  have measured : (s.modStream n fun st => { st with margin := st.marginLevel, hold := st.holdEval }).summary = s.summary :=
    State.summary_congr rfl fun m => by
      rw [State.stream_modStream]; split <;> exact ⟨rfl, rfl⟩
  unfold State.reevaluate State.raiseIf
  dsimp only
  split
  · rw [State.raise_queue, noteFor_congr measured rfl rfl]; rfl
  · rw [noteFor_of_summary_eq measured, List.append_nil]; rfl

/-- The queue after the exit from PLAYING (R22, R23). -/
theorem State.leavePlaying_queue (s : State) (r : GateReason) :
    (s.leavePlaying n r).tx.queue =
      if (s.stream n).state = .playing then placeGate s.tx.queue n false r else s.tx.queue := by
  unfold State.leavePlaying; split
  · rw [State.pushGate_eq]; rfl
  · rfl

/-- The dropped records lose their stream its window, not its flags. -/
theorem State.dropStream_flags (s : State) (d : DropReason) (m : Slot) :
    ((s.dropStream n d).stream m).flags = (s.stream m).flags ∧ ((s.dropStream n d).stream m).mask = (s.stream m).mask := by
  by_cases same : m = n
  · subst same
    obtain ⟨w, dropped⟩ := s.dropStream_stream m d
    rw [dropped]; exact ⟨rfl, rfl⟩
  · rw [s.dropStream_elsewhere n d m same]; exact ⟨rfl, rfl⟩

/-- What emptying a stream leaves unchanged, and the records that stay (R19, R20). -/
theorem State.emptyStream_shell (s : State) (d : DropReason) (g : GateReason) :
    s.SameShell (s.emptyStream n d g) ∧ (s.emptyStream n d g).pool = (s.dropStream n d).pool ∧
      (s.emptyStream n d g).arb = s.arb := by
  obtain ⟨shell, -, arb⟩ := s.dropStream_shell n d
  have blocks : (s.dropStream n d).SameBlocks (s.emptyStream n d g) :=
    (((State.modStream_blocks _ n _).trans (State.reevaluate_blocks _ n)).trans (State.modStream_blocks _ n _)).trans
      (State.leavePlaying_blocks _ n g)
  exact ⟨shell.trans blocks.toSameShell, blocks.pool, blocks.arb.trans arb⟩

/-- The queue once a stream has been emptied: the drops, the NOTE for MARGIN, the GATE from PLAYING. -/
theorem State.emptyStream_queue (sound : s.poolSound) (h : (s.stream n).controlled) (hc : (s.stream n).state ≠ .closed)
    (d : DropReason) (g : GateReason) :
    (s.emptyStream n d g).tx.queue =
      if (s.stream n).state = .playing then
        placeGate (s.queueAfterDrops n d ++ noteFor s (s.setStream n { s.stream n with
          flags := if (s.stream n).margin = .empty then (s.stream n).flags else withFlag (s.stream n).flags 4 })) n false g
      else s.queueAfterDrops n d ++ noteFor s (s.setStream n { s.stream n with
          flags := if (s.stream n).margin = .empty then (s.stream n).flags else withFlag (s.stream n).flags 4 }) := by
  obtain ⟨w, dropped⟩ := s.dropStream_stream n d
  have flags := s.dropStream_flags n d
  have marks := (Stream.marks_of_controlled h hc).2.2.2
  unfold State.emptyStream
  dsimp only
  generalize emptied_eq : ((s.dropStream n d).modStream n fun st => st.emptyWindow.emptyBuffer) = u
  have stream : u.stream n = ((s.dropStream n d).stream n).emptyWindow.emptyBuffer := by
    rw [← emptied_eq, State.stream_modStream_same]
  have elsewhere : ∀ m, m ≠ n → u.stream m = s.stream m := fun m other => by
    rw [← emptied_eq, State.stream_modStream_other _ _ _ _ other.symm, s.dropStream_elsewhere n d m other]
  have dev : u.dev = s.dev := by rw [← emptied_eq]; exact (s.dropStream_shell n d).1.dev
  have queue : u.tx.queue = s.queueAfterDrops n d := by rw [← emptied_eq]; exact sound.dropStream_queue n d
  have note : noteFor u (u.reevaluate n) = noteFor s (s.setStream n { s.stream n with
      flags := if (s.stream n).margin = .empty then (s.stream n).flags else withFlag (s.stream n).flags 4 }) := by
    refine noteFor_congr (State.summary_congr dev fun m => ?_) (State.summary_congr ?_ fun m => ?_) ?_
    · by_cases same : m = n
      · subst same; rw [stream]; exact flags m
      · rw [elsewhere m same]; exact ⟨rfl, rfl⟩
    · exact (u.reevaluate_blocks n).dev.trans dev
    · by_cases same : m = n
      · subst same
        rw [State.reevaluate_stream, State.stream_setStream_same, stream, Stream.marginLevel_of_empty rfl, dropped]
        simp only [Stream.emptyBuffer, Stream.emptyWindow, eq_comm (a := Margin.empty), StreamFlag.bit, and_self]
      · rw [u.reevaluate_elsewhere n m same, State.stream_setStream, if_neg (Ne.symm same), elsewhere m same]
        exact ⟨rfl, rfl⟩
    · rw [State.noteWaiting, queue, noteWaiting_queueAfterDrops]
  have state : (((u.reevaluate n).modStream n Stream.clearProbeAndRescue).stream n).state = (s.stream n).state := by
    rw [State.stream_modStream_same, Stream.clearProbeAndRescue, State.reevaluate_stream, stream, dropped]; rfl
  rw [State.leavePlaying_queue, state, State.modStream_tx, State.reevaluate_queue, queue, note]

/-! ### The allocation and the end of an event -/

theorem State.guardPass_congr (sharing : t.sharing = s.sharing)
    (streams : ∀ m, (t.stream m).cfg = (s.stream m).cfg ∧ (t.stream m).ladder = (s.stream m).ladder) (ns : List Slot) :
    ∀ r, t.guardPass r ns = s.guardPass r ns := by
  induction ns with
  | nil => exact fun _ => rfl
  | cons m ns ih =>
    intro r
    have base : ∀ r, t.baseOf m r = s.baseOf m r := fun r => by
      simp only [State.baseOf, Stream.rate, sharing, (streams m).1, (streams m).2]
    simp only [State.guardPass, base, ih, Stream.rate, Stream.top, (streams m).1, (streams m).2]

/-- The allocation reads the settings and each stream's state, configuration and ladder (R122, R123). -/
theorem State.allocation_congr (sharing : t.sharing = s.sharing)
    (streams : ∀ m, (t.stream m).state = (s.stream m).state ∧ (t.stream m).cfg = (s.stream m).cfg ∧
      (t.stream m).ladder = (s.stream m).ladder) (u : Nat) : t.allocation u = s.allocation u := by
  have order : t.guardOrder = s.guardOrder := by
    simp only [State.guardOrder, Stream.active, (streams _).1, (streams _).2.1]
  unfold State.allocation
  rw [order, State.guardPass_congr sharing fun m => (streams m).2]

theorem State.reallocate_allocation (s : State) (u : Nat) : s.reallocate.allocation u = s.allocation u :=
  State.allocation_congr s.reallocate_blocks.sharing (fun m => by rw [State.reallocate_stream]; exact ⟨rfl, rfl, rfl⟩) u

/-- The arbitration at the end of an event that changed one stream's hold and activity at most (R128). -/
theorem State.settle_eq (elsewhere : ∀ m, m ≠ n → (t.stream m).hold = (s.stream m).hold ∧
      (t.stream m).active = (s.stream m).active) :
    t.settle s = if t.pool.records.length < s.pool.records.length ∨
        ((s.stream n).hold = true ∧ (t.stream n).hold = false) ∨
        ((s.stream n).active = false ∧ (t.stream n).active = true) then t.arbitrate else t := by
  have any : ∀ p : Slot → Bool, (∀ m, m ≠ n → p m = false) → (slots.any p) = p n := fun p hp => by
    rw [Bool.eq_iff_iff, List.any_eq_true]
    constructor
    · rintro ⟨m, -, holds⟩
      by_cases same : m = n
      · exact same ▸ holds
      · rw [hp m same] at holds; cases holds
    · exact fun holds => ⟨n, by fin_cases n <;> decide, holds⟩
  have hold : t.holdCleared s = ((s.stream n).hold && !(t.stream n).hold) :=
    any _ fun m other => by rw [(elsewhere m other).1]; simp
  have active : t.becameActive s = (!(s.stream n).active && (t.stream n).active) :=
    any _ fun m other => by rw [(elsewhere m other).2]; simp
  unfold State.settle State.recordFreed State.liveCount
  rw [hold, active]
  simp only [Bool.or_eq_true, decide_eq_true_eq, Bool.and_eq_true, Bool.not_eq_true', or_assoc]

/-- Records of a stream were freed exactly where it had some. -/
theorem State.poolSound.freed_iff (h : s.poolSound) :
    (s.pool.records.filter fun r => r.slot != n).length < s.pool.records.length ↔ s.recordsOf n ≠ [] := by
  rw [List.length_filter_lt_length_iff_exists, ne_eq, List.eq_nil_iff_forall_not_mem, not_forall]
  simp only [bne_iff_ne, ne_eq, not_not, h.mem_recordsOf n]

theorem State.reallocateIf_stream (s : State) (c : Bool) (m : Slot) :
    (s.reallocateIf c).stream m = { s.stream m with
      share := if c then shareIn (s.allocation s.est.usable) m else (s.stream m).share } := by
  cases c with
  | true => exact s.reallocate_stream m
  | false => rfl

/-- The shares after an allocation are what the allocation then gives (R124). -/
theorem State.reallocateIf_allocation (s : State) (c : Bool) (u : Nat) : (s.reallocateIf c).allocation u = s.allocation u :=
  State.allocation_congr (s.reallocateIf_blocks c).sharing
    (fun m => by rw [State.reallocateIf_stream]; exact ⟨rfl, rfl, rfl⟩) u

@[simp] theorem State.reallocateIf_tx (s : State) (c : Bool) : (s.reallocateIf c).tx = s.tx := by
  cases c with
  | true => exact State.forSlots_keeps State.tx _ (fun _ _ => rfl) s
  | false => rfl

/-- The allocation re-run after a change of one stream: the shares it gives, and nothing else of the other streams. -/
theorem State.SameElsewhere.reallocated (e : s.SameElsewhere n t) (est : t.est = s.est) (m : Slot) :
    ((t.reallocateIf true).stream m).share = shareIn ((t.reallocateIf true).allocation s.est.usable) m ∧
      (m ≠ n → (t.reallocateIf true).stream m =
        { s.stream m with share := ((t.reallocateIf true).stream m).share }) := by
  rw [State.reallocateIf_allocation, State.reallocateIf_stream, est]
  exact ⟨rfl, fun other => by rw [e m other]⟩

/-- The reply with the state at the end of an event that a steady stream goes through. -/
theorem State.replyState_of_steady (h : (s.stream n).Steady) (c : Prop) [Decidable c] :
    (if c then s.arbitrate else s).replyState n =
      (if c then s.arbitrate else s).pushTx (.reply 0x94 [0x00, (s.stream n).state.code]) := by
  split
  · exact State.arbitrate_replyState_of_steady h
  · rfl

theorem Stream.active_eq_false_iff {st : Stream} (hc : st.state ≠ .closed) (hi : st.state ≠ .idle) :
    st.active = false ↔ st.state = .ended := by
  unfold Stream.active
  cases h : st.state <;> simp_all

/-- The records that a drop of a stream's records leaves. -/
theorem State.poolSound.mem_dropped (h : s.poolSound) {p : Pool} (d : DropReason) (e : p = (s.dropStream n d).pool)
    (r : Record) : r ∈ p.records ↔ r ∈ s.pool.records ∧ r.slot ≠ n := by
  rw [e, h.dropStream_records, List.mem_filter, bne_iff_ne]

/-! ### The state once a stream's records are dropped -/

/-- The records of stream n are dropped, and nothing else has changed but stream n and the transmit queue. -/
structure State.Vacated (n : Slot) (d : DropReason) (s v : State) : Prop where
  elsewhere : s.SameElsewhere n v
  shell : s.SameShell v
  pool : v.pool = (s.dropStream n d).pool
  arb : v.arb = s.arb

theorem State.Vacated.step {n : Slot} {d : DropReason} {v w : State} (h : State.Vacated n d s v)
    (e : v.SameElsewhere n w) (b : v.SameBlocks w) : State.Vacated n d s w :=
  ⟨h.elsewhere.trans e, h.shell.trans b.toSameShell, b.pool.trans h.pool, b.arb.trans h.arb⟩

theorem State.Vacated.modStream {n : Slot} {d : DropReason} {v : State} (h : State.Vacated n d s v) (f : Stream → Stream) :
    State.Vacated n d s (v.modStream n f) :=
  h.step (v.modStream_elsewhere n f) (v.modStream_blocks n f)

theorem State.dropStream_vacated (s : State) (d : DropReason) : State.Vacated n d s (s.dropStream n d) :=
  ⟨s.dropStream_elsewhere n d, (s.dropStream_shell n d).1, rfl, (s.dropStream_shell n d).2.2⟩

theorem State.emptyStream_vacated (s : State) (d : DropReason) (g : GateReason) :
    State.Vacated n d s (s.emptyStream n d g) := by
  obtain ⟨shell, pool, arb⟩ := s.emptyStream_shell n d g
  exact ⟨s.emptyStream_elsewhere n d g, shell, pool, arb⟩

section Vacated

variable {n : Slot} {d : DropReason} {v : State} (h : State.Vacated n d s v) (c : Bool)
include h

theorem State.Vacated.shell_reallocateIf : s.SameShell (v.reallocateIf c) :=
  h.shell.trans (v.reallocateIf_blocks c).toSameShell

theorem State.Vacated.arb_reallocateIf : (v.reallocateIf c).arb = s.arb := (v.reallocateIf_blocks c).arb.trans h.arb

theorem State.Vacated.nextTag_reallocateIf : (v.reallocateIf c).pool.nextTag = s.pool.nextTag := by
  rw [(v.reallocateIf_blocks c).pool, h.pool]; exact (s.dropStream_shell n d).2.1

theorem State.Vacated.mem_reallocateIf (sound : s.poolSound) (r : Record) :
    r ∈ (v.reallocateIf c).pool.records ↔ r ∈ s.pool.records ∧ r.slot ≠ n :=
  sound.mem_dropped n d ((v.reallocateIf_blocks c).pool.trans h.pool) r

/-- The other streams keep all but their share. -/
theorem State.Vacated.stream_reallocateIf {m : Slot} (other : m ≠ n) :
    (v.reallocateIf c).stream m = { s.stream m with share := ((v.reallocateIf c).stream m).share } := by
  rw [State.reallocateIf_stream, h.elsewhere m other]

/-- The records freed are the event's: an arbitration where there was one (R128). -/
theorem State.Vacated.freed_iff (sound : s.poolSound) :
    (v.reallocateIf c).pool.records.length < s.pool.records.length ↔ s.recordsOf n ≠ [] := by
  rw [(v.reallocateIf_blocks c).pool, h.pool, sound.dropStream_records, sound.freed_iff]

theorem State.Vacated.settle_reallocateIf (sound : s.poolSound) :
    (v.reallocateIf c).settle s = if s.recordsOf n ≠ [] ∨ ((s.stream n).hold = true ∧ (v.stream n).hold = false) ∨
      ((s.stream n).active = false ∧ (v.stream n).active = true) then (v.reallocateIf c).arbitrate else v.reallocateIf c := by
  rw [State.settle_eq n fun m other => by rw [h.stream_reallocateIf c other]; exact ⟨rfl, rfl⟩]
  simp only [h.freed_iff c sound, State.reallocateIf_stream]
  rfl

end Vacated

end Sys2Proof.Machine
end

section
namespace Sys2Proof.Machine

variable {s : State} (n : Slot)

/-- A stream that is not active has no share after the allocation, and none before it where it had been inactive (R120). -/
theorem State.reallocateIf_of_inactive {c : Bool} (inactive : (s.stream n).active = false)
    (none_before : c = false → (s.stream n).share = 0) :
    (s.reallocateIf c).stream n = { s.stream n with share := 0 } := by
  rw [State.reallocateIf_stream]
  cases c with
  | true => rw [if_pos rfl, State.shareIn_of_inactive inactive]
  | false => rw [if_neg Bool.false_ne_true, none_before rfl]

/-- The frame that left the receive buffer plays no part in what a change of flags calls for. -/
theorem noteFor_popFrame (s : State) (st : Stream) :
    noteFor s.popFrame (s.popFrame.setStream n st) = noteFor s (s.setStream n st) :=
  noteFor_congr (State.summary_congr rfl fun _ => ⟨rfl, rfl⟩) (State.summary_congr rfl fun _ => ⟨rfl, rfl⟩) rfl

/-- SEEK before the allocation and the readiness test (R19). -/
def State.seekBegun (s : State) (n : Slot) : State :=
  ((s.emptyStream n .seek .seek).modStream n fun st => { st with prevGrant := none, startLimit := true }).enterStarting n

theorem State.seekBegun_tx (s : State) : (s.seekBegun n).tx = (s.emptyStream n .seek .seek).tx := by
  rw [State.seekBegun, State.enterStarting, State.modStream_tx, State.modStream_tx]

theorem State.seekBegun_vacated (s : State) : State.Vacated n .seek s (s.seekBegun n) := by
  unfold State.seekBegun State.enterStarting
  exact ((s.emptyStream_vacated n .seek .seek).modStream _).modStream _

theorem State.seekBegun_stream (h : (s.stream n).controlled) (hc : (s.stream n).state ≠ .closed) :
    (s.seekBegun n).stream n = { (s.stream n).emptied none with
      state := .starting, startTimer := some (s.now + (s.stream n).cfg.startTimeout), stallTimer := none, overdue := false,
      startLimit := true } := by
  rw [State.seekBegun, State.enterStarting, State.stream_modStream_same, State.stream_modStream_same, State.modStream_now,
    (s.emptyStream_vacated n .seek .seek).shell.now, State.emptyStream_stream n h hc]
  rfl

theorem State.seekBegun_steady (h : (s.stream n).controlled) (hc : (s.stream n).state ≠ .closed) (c : Bool) :
    (((s.seekBegun n).reallocateIf c).stream n).Steady := by
  rw [State.reallocateIf_stream, State.seekBegun_stream n h hc]
  exact .inr ⟨rfl, .inl rfl⟩

/-- With nothing buffered the readiness test of SEEK fails (R19). -/
theorem State.seekAct_eq (h : (s.stream n).controlled) (hc : (s.stream n).state ≠ .closed) :
    s.seekAct n = (s.seekBegun n).reallocateIf !(s.stream n).active :=
  State.readinessTest_of_not_ready (s := (s.seekBegun n).reallocateIf !(s.stream n).active)
    (State.seekBegun_steady n h hc _).not_ready

/-- STOP before the allocation (R20). -/
def State.stopBegun (s : State) (n : Slot) : State :=
  (s.emptyStream n .stop .stop).modStream n fun st =>
    { st with state := .idle, startTimer := none, stallTimer := none, overdue := false, startLimit := false }

theorem State.stopBegun_tx (s : State) : (s.stopBegun n).tx = (s.emptyStream n .stop .stop).tx := by
  rw [State.stopBegun, State.modStream_tx]

theorem State.stopBegun_vacated (s : State) : State.Vacated n .stop s (s.stopBegun n) :=
  (s.emptyStream_vacated n .stop .stop).modStream _

theorem State.stopBegun_stream (sound : s.poolSound) (h : (s.stream n).controlled) (hc : (s.stream n).state ≠ .closed) :
    (s.stopBegun n).stream n = { (s.stream n).emptied
        (if (s.recordsOf n).any Record.announcePending then none else (s.stream n).prevGrant) with
      state := .idle, startTimer := none, stallTimer := none, overdue := false, startLimit := false } := by
  rw [State.stopBegun, State.stream_modStream_same, State.emptyStream_stream n h hc, sound.dropStream_prevGrant]

/-- CLOSE before the allocation (R21). -/
def State.closeBegun (s : State) (n : Slot) : State :=
  ((s.dropStream n .close).leavePlaying n .close).modStream n Stream.closedKeepingFlags

theorem State.closeBegun_vacated (s : State) : State.Vacated n .close s (s.closeBegun n) :=
  ((s.dropStream_vacated n .close).step (State.leavePlaying_elsewhere _ n _) (State.leavePlaying_blocks _ n _)).modStream _

theorem State.dropStream_state (s : State) (d : DropReason) : ((s.dropStream n d).stream n).state = (s.stream n).state := by
  obtain ⟨w, dropped⟩ := s.dropStream_stream n d
  rw [dropped]

theorem State.closeBegun_stream (s : State) :
    (s.closeBegun n).stream n = { Stream.closed with flags := (s.stream n).flags, mask := (s.stream n).mask } := by
  have flags := s.dropStream_flags n .close n
  rw [State.closeBegun, State.stream_modStream_same, State.leavePlaying_stream, Stream.closedKeepingFlags]
  split <;> simp only [flags]

theorem State.closeBegun_queue (sound : s.poolSound) :
    (s.closeBegun n).tx.queue = if (s.stream n).state = .playing then placeGate (s.queueAfterDrops n .close) n false .close
      else s.queueAfterDrops n .close := by
  rw [State.closeBegun, State.modStream_tx, State.leavePlaying_queue, sound.dropStream_queue, State.dropStream_state]

theorem Stream.seekAllowed_of_open {st : Stream} (hc : st.state ≠ .closed) (hi : st.state ≠ .idle) : st.seekAllowed = true := by
  unfold Stream.seekAllowed
  cases active : st.active with
  | true => rfl
  | false => rw [(Stream.active_eq_false_iff hc hi).mp active]; rfl

theorem Stream.active_of_not_ended {st : Stream} (hc : st.state ≠ .closed) (hi : st.state ≠ .idle) (he : st.state ≠ .ended) :
    st.active = true := by
  rw [← Bool.not_eq_false, Stream.active_eq_false_iff hc hi]; exact he

end Sys2Proof.Machine

open Sys2Proof Sys2Proof.Machine

/-- Settles O30: SEEK is the emptying of the stream, the entry to STARTING and, from ENDED, the allocation; the readiness test
finds nothing buffered. -/
theorem seekRestartsFromAnEmptyPosition : Obligations.SeekRestartsFromAnEmptyPosition := by
  intro s n sound door st queue flags opened active
  obtain ⟨pool, controlled, -⟩ := sound
  have pool' : s.popFrame.poolSound := pool
  have vacated := s.popFrame.seekBegun_vacated n
  have stream := State.seekBegun_stream (s := s.popFrame) n (controlled n) opened
  refine ⟨(s.popFrame.seekBegun n).reallocateIf !st.active, ?_, vacated.mem_reallocateIf _ pool',
    vacated.nextTag_reallocateIf _, ?_, ?_, fun notEnded => ?_, fun ended => ?_, vacated.shell_reallocateIf _,
    vacated.arb_reallocateIf _⟩
  · refine (State.next_playctl_of_allowed door opened (Stream.seekAllowed_of_open opened active)).trans (congrArg _ ?_)
    have inactive := Stream.active_eq_false_iff opened active
    have condition : (s.popFrame.recordsOf n ≠ [] ∨ ((s.popFrame.stream n).hold = true ∧
        ((s.popFrame.seekBegun n).stream n).hold = false) ∨ ((s.popFrame.stream n).active = false ∧
          ((s.popFrame.seekBegun n).stream n).active = true)) ↔ s.recordsOf n ≠ [] ∨ st.hold = true ∨ st.state = .ended := by
      rw [stream, ← inactive]
      exact or_congr Iff.rfl (or_congr (and_iff_left rfl) (and_iff_left rfl))
    change ((s.popFrame.seekAct n).settle s.popFrame).replyState n = _
    rw [State.seekAct_eq (s := s.popFrame) n (controlled n) opened, vacated.settle_reallocateIf _ pool']
    simp only [condition]
    rw [State.replyState_of_steady n (State.seekBegun_steady (s := s.popFrame) n (controlled n) opened _),
      State.reallocateIf_stream, stream]
    rfl
  · rw [State.reallocateIf_tx, State.seekBegun_tx,
      State.emptyStream_queue (s := s.popFrame) n pool' (controlled n) opened, noteFor_popFrame]
    rfl
  · rw [State.reallocateIf_stream, stream]; rfl
  · rw [Stream.active_of_not_ended opened active notEnded]
    exact ⟨vacated.elsewhere, by rw [State.reallocateIf_stream, stream]; rfl⟩
  · rw [(Stream.active_eq_false_iff opened active).mpr ended]
    exact State.SameElsewhere.reallocated n vacated.elsewhere vacated.shell.est

/-- Settles O31: STOP is the emptying of the stream, the state IDLE and, for an active stream, the allocation. -/
theorem stopReturnsToIdle : Obligations.StopReturnsToIdle := by
  intro s n sound door st queue flags opened active
  obtain ⟨pool, controlled, -⟩ := sound
  have pool' : s.popFrame.poolSound := pool
  have vacated := s.popFrame.stopBegun_vacated n
  have stream := State.stopBegun_stream (s := s.popFrame) n pool' (controlled n) opened
  have idle : ((s.popFrame.stopBegun n).stream n).active = false := by rw [stream]; rfl
  refine ⟨(s.popFrame.stopBegun n).reallocateIf st.active, ?_, vacated.mem_reallocateIf _ pool',
    vacated.nextTag_reallocateIf _, ?_, ?_, fun ended => ?_, fun notEnded => ?_, vacated.shell_reallocateIf _,
    vacated.arb_reallocateIf _⟩
  · refine (State.next_playctl_of_allowed door opened (Stream.seekAllowed_of_open opened active)).trans (congrArg _ ?_)
    have condition : (s.popFrame.recordsOf n ≠ [] ∨ ((s.popFrame.stream n).hold = true ∧
        ((s.popFrame.stopBegun n).stream n).hold = false) ∨ ((s.popFrame.stream n).active = false ∧
          ((s.popFrame.stopBegun n).stream n).active = true)) ↔ s.recordsOf n ≠ [] ∨ st.hold = true := by
      rw [idle, stream]
      exact or_congr Iff.rfl ((or_iff_left fun both => nomatch both.2).trans (and_iff_left rfl))
    have steady : (((s.popFrame.stopBegun n).reallocateIf st.active).stream n).Steady := by
      rw [State.reallocateIf_stream, stream]; exact .inl ⟨nofun, nofun⟩
    change (((s.popFrame.stopBegun n).reallocateIf st.active).settle s.popFrame).replyState n = _
    rw [vacated.settle_reallocateIf _ pool']
    simp only [condition]
    rw [State.replyState_of_steady n steady, State.reallocateIf_stream, stream]
    rfl
  · rw [State.reallocateIf_tx, State.stopBegun_tx,
      State.emptyStream_queue (s := s.popFrame) n pool' (controlled n) opened, noteFor_popFrame]
    rfl
  · have share : ((s.popFrame.stopBegun n).stream n).share = st.share := by rw [stream]; rfl
    rw [State.reallocateIf_of_inactive n idle fun inactive => share.trans ((controlled n).share_of_inactive inactive), stream]
    rfl
  · rw [(Stream.active_eq_false_iff opened active).mpr ended]
    exact vacated.elsewhere
  · rw [Stream.active_of_not_ended opened active notEnded]
    exact State.SameElsewhere.reallocated n vacated.elsewhere vacated.shell.est

/-- Settles O32: CLOSE drops the records, closes the gate and the slot, and re-runs the allocation for an active stream. -/
theorem closeReleasesTheSlot : Obligations.CloseReleasesTheSlot := by
  intro s n sound door st queue opened
  obtain ⟨pool, controlled, -⟩ := sound
  have pool' : s.popFrame.poolSound := pool
  have vacated := s.popFrame.closeBegun_vacated n
  have stream := s.popFrame.closeBegun_stream n
  have closed : ((s.popFrame.closeBegun n).stream n).active = false := by rw [stream]; rfl
  refine ⟨(s.popFrame.closeBegun n).reallocateIf st.active, ?_, vacated.mem_reallocateIf _ pool',
    vacated.nextTag_reallocateIf _, ?_, ?_, fun inactive => ?_, fun active => ?_, vacated.shell_reallocateIf _,
    vacated.arb_reallocateIf _⟩
  · refine (State.next_request_of_ok (a := n) door
      (State.openStream_of_open (slot := id) (parseSlot_byte n) opened)).trans (congrArg _ ?_)
    change State.reply (if ((s.popFrame.closeBegun n).reallocateIf st.active).recordFreed s.popFrame then _ else _) _ _ _ = _
    have freed := vacated.freed_iff st.active pool'
    simp only [State.recordFreed, decide_eq_true_eq, State.liveCount, freed]
    rfl
  · rw [State.reallocateIf_tx]; exact State.closeBegun_queue n pool'
  · have share : ((s.popFrame.closeBegun n).stream n).share = 0 := by rw [stream]; rfl
    rw [State.reallocateIf_of_inactive n closed fun _ => share, stream]
    rfl
  · rw [inactive]; exact vacated.elsewhere
  · rw [active]; exact State.SameElsewhere.reallocated n vacated.elsewhere vacated.shell.est

end

section
namespace Sys2Proof.Machine

/-! ## Drain steps (R74 to R77, R84 to R88) -/

/-! ### The queue under a drain amount (R76) -/

theorem drainQueue_within (gone : List BufferEntry) {b : BufferEntry} {rest : List BufferEntry} :
    ∀ {amount : Nat}, (∀ x ∈ gone, 1 ≤ x.remaining) → (gone.map BufferEntry.remaining).sum ≤ amount →
      amount < (gone.map BufferEntry.remaining).sum + b.remaining →
      drainQueue amount (gone ++ b :: rest) =
        ({ b with remaining := b.remaining - (amount - (gone.map BufferEntry.remaining).sum) } :: rest, 0) := by
  induction gone with
  | nil =>
    intro amount _ _ short
    simp only [List.map_nil, List.sum_nil, Nat.zero_add, Nat.sub_zero] at short ⊢
    by_cases none : amount = 0
    · subst none; rfl
    · rw [List.nil_append, drainQueue, if_neg none, if_pos short]
  | cons x gone ih =>
    intro amount pos reach short
    simp only [List.map_cons, List.sum_cons] at reach short ⊢
    have one := pos x List.mem_cons_self
    rw [List.cons_append, drainQueue, if_neg (by omega), if_neg (by omega),
      ih (fun y hy => pos y (List.mem_cons_of_mem _ hy)) (by omega) (by omega), Nat.sub_sub]

theorem drainQueue_dry (buffer : List BufferEntry) :
    ∀ {amount : Nat}, (∀ x ∈ buffer, 1 ≤ x.remaining) → (buffer.map BufferEntry.remaining).sum ≤ amount →
      drainQueue amount buffer = ([], amount - (buffer.map BufferEntry.remaining).sum) := by
  induction buffer with
  | nil => intro amount _ _; rfl
  | cons x buffer ih =>
    intro amount pos reach
    simp only [List.map_cons, List.sum_cons] at reach ⊢
    have one := pos x List.mem_cons_self
    rw [drainQueue, if_neg (by omega), if_neg (by omega),
      ih (fun y hy => pos y (List.mem_cons_of_mem _ hy)) (by omega), Nat.sub_sub]

variable {s t : State} {n : Slot}

/-! ### The step itself (R75, R76) -/

/-- The state after R75 and R76: the accumulator's rest, the buffer queue left, the next step's time, and margin and hold
re-evaluated. -/
def State.drainedTo (s : State) (n : Slot) (buffer : List BufferEntry) (next : Nat) : State :=
  (s.setStream n { s.stream n with
    acc := (s.stream n).accGained % 256, buffer := buffer, drainTimer := some next }).reevaluate n

theorem State.drainedTo_stream (s : State) (n : Slot) (buffer : List BufferEntry) (next : Nat) :
    ∃ margin hold flags, (s.drainedTo n buffer next).stream n = { s.stream n with
      acc := (s.stream n).accGained % 256, buffer := buffer, drainTimer := some next, margin := margin, hold := hold,
      flags := flags } := by
  rw [State.drainedTo, State.reevaluate_stream, State.stream_setStream_same]
  exact ⟨_, _, _, rfl⟩

theorem State.drainedTo_elsewhere (s : State) (n : Slot) (buffer : List BufferEntry) (next : Nat) :
    s.SameElsewhere n (s.drainedTo n buffer next) := fun m other => by
  rw [State.drainedTo, State.reevaluate_elsewhere _ n m other, State.stream_setStream, if_neg (Ne.symm other)]

theorem State.drainedTo_blocks (s : State) (n : Slot) (buffer : List BufferEntry) (next : Nat) :
    s.SameBlocks (s.drainedTo n buffer next) :=
  (s.modStream_blocks n fun _ => _).trans (State.reevaluate_blocks _ n)

theorem State.drainAct_eq {e : Nat} (timer : (s.stream n).drainTimer = some e) :
    s.drainAct n = (s.drainedTo n (drainQueue (s.stream n).drainAmount (s.stream n).buffer).1 (e + 10)).drainEnd n
      (drainQueue (s.stream n).drainAmount (s.stream n).buffer).2 := by
  have drained : (s.stream n).drained = { s.stream n with
      acc := (s.stream n).accGained % 256,
      buffer := (drainQueue (s.stream n).drainAmount (s.stream n).buffer).1, drainTimer := some (e + 10) } := by
    rw [Stream.drained, timer]; rfl
  unfold State.drainAct State.drainedTo
  dsimp only
  rw [State.modStream_eq, drained]

/-- With a remainder in the buffer queue, or nothing left of the amount, a drain step ends there (R77). -/
theorem State.drainEnd_of_more {left : Nat} (h : (s.stream n).buffer ≠ [] ∨ left = 0) : s.drainEnd n left = s := by
  refine if_neg ?_
  rintro ⟨empty, rest⟩
  rcases h with more | none
  · exact more empty
  · exact absurd rest (by omega)

/-! ### The end and the underrun (R16, R18, R84 to R88) -/

theorem State.leavePlaying_of_playing (h : (s.stream n).state = .playing) (r : GateReason) :
    s.leavePlaying n r =
      (s.modStream n fun st => { st with gate := false, drainTimer := none, probePending := false }).pushGate n false r :=
  if_pos h

theorem State.endOfPresentation_eq (h : (s.stream n).state = .playing) :
    s.endOfPresentation n = (((s.modStream n fun st =>
      { st with state := .ended, gate := false, drainTimer := none, probePending := false }).pushGate n false
        .ended).raise n .ended).reallocate := by
  rw [State.endOfPresentation, State.leavePlaying_of_playing h, State.pushGate_modStream, State.modStream_modStream]

theorem State.enterRebuffering_eq (h : (s.stream n).state = .playing) :
    s.enterRebuffering n = ((s.modStream n fun st =>
      { st with
        state := .rebuffering, gate := false, drainTimer := none, probePending := false,
        stallTimer := some (s.now + st.cfg.stallTimeout) }).pushGate n false .stall).raise n .stall := by
  rw [State.enterRebuffering, State.leavePlaying_of_playing h, State.pushGate_modStream, State.modStream_modStream]

theorem State.enterRebuffering_blocks (s : State) (n : Slot) : s.SameBlocks (s.enterRebuffering n) :=
  ((s.leavePlaying_blocks n _).trans (State.modStream_blocks _ n _)).trans (State.raise_blocks _ n _)

theorem State.enterRebuffering_elsewhere (s : State) (n : Slot) : s.SameElsewhere n (s.enterRebuffering n) :=
  ((s.leavePlaying_elsewhere n _).trans (State.modStream_elsewhere _ n _)).trans (State.raise_elsewhere _ n _)

theorem State.enterRebuffering_current (s : State) (n : Slot) :
    ((s.enterRebuffering n).stream n).current = (s.stream n).current := by
  rw [State.enterRebuffering, State.raise_stream, if_pos rfl, State.stream_modStream_same, State.leavePlaying_stream]
  split <;> rfl

theorem State.dropToWaiting_records (s : State) (r : Record) (d : DropReason) :
    (s.dropToWaiting r d).pool.records = s.pool.records.filter fun x => x.tag != r.tag := by
  rw [State.dropToWaiting, (State.windowChanged_blocks _ _).pool, State.returnEntry, State.modStream_pool,
    State.dropRecord_records]

theorem State.dropToWaiting_elsewhere (s : State) (r : Record) (d : DropReason) :
    s.SameElsewhere r.slot (s.dropToWaiting r d) :=
  ((s.dropRecord_elsewhere r d).trans (State.modStream_elsewhere _ _ _)).trans (State.windowChanged_elsewhere _ _)

/-- The NORMAL or REFETCH record stays findable when records of the other class leave. -/
theorem State.normalRecord_of_filter {rs : List Record} (records : t.pool.records = s.pool.records.filter fun x => rs.all
    fun r => x.tag != r.tag) (others : ∀ x ∈ s.pool.records, x.isNormal = true → ∀ r ∈ rs, x.tag ≠ r.tag) :
    t.normalRecord n = s.normalRecord n := by
  unfold State.normalRecord
  rw [records, List.find?_filter]
  refine List.find?_congr fun x hx => ?_
  cases normal : x.isNormal with
  | false => simp
  | true =>
    have kept : (rs.all fun r => x.tag != r.tag) = true :=
      List.all_eq_true.mpr fun r hr => bne_iff_ne.mpr (others x hx normal r hr)
    rw [Bool.eq_iff_iff]
    simp [kept]

theorem State.stallProbe_of_record {r : Record} (found : s.probeRecord n = some r) :
    s.stallProbe n = (s.dropToWaiting r .stall).probeFailure n := by
  have slot := (State.mem_of_probeRecord n found).2.1
  unfold State.stallProbe
  rw [found]
  exact congrArg (State.probeFailure _) slot

theorem State.stallProbe_of_none (none : s.probeRecord n = none) : s.stallProbe n = s := by
  unfold State.stallProbe
  rw [none]

theorem State.stallProbe_records (s : State) (n : Slot) :
    (s.stallProbe n).pool.records = s.pool.records.filter fun x => (s.probeRecord n).toList.all fun r => x.tag != r.tag := by
  cases found : s.probeRecord n with
  | none => simp [State.stallProbe_of_none found]
  | some r => simp [State.stallProbe_of_record found, (State.probeFailure_blocks _ n).pool, State.dropToWaiting_records]

theorem State.stallProbe_elsewhere (s : State) (n : Slot) : s.SameElsewhere n (s.stallProbe n) := by
  cases found : s.probeRecord n with
  | none => rw [State.stallProbe_of_none found]; exact .refl n s
  | some r =>
    have slot := (State.mem_of_probeRecord n found).2.1
    rw [State.stallProbe_of_record found]
    exact (slot ▸ s.dropToWaiting_elsewhere r .stall).trans (State.probeFailure_elsewhere _ n)

theorem State.poolSound.normalRecord_stallProbe (h : s.poolSound) : (s.stallProbe n).normalRecord n = s.normalRecord n := by
  refine State.normalRecord_of_filter (s.stallProbe_records n) fun x hx normal r hr same => ?_
  obtain ⟨mem, -, probe⟩ := State.mem_of_probeRecord n (Option.mem_toList.mp hr)
  rw [h.eq_of_tag hx mem same, probe] at normal
  cases normal

/-- The rescue test, spelled out (R86). -/
theorem Record.rescueTest_iff (r : Record) :
    r.rescueTest = true ↔ ∃ m, r.kind = .normal ∧ r.expected = some m ∧ r.reported < (m + r.init.getD 0) / 2 ∧ 0 < r.rung := by
  unfold Record.rescueTest
  cases r.kind <;> cases r.expected <;> simp

theorem State.rescue_of_test {r : Record} (found : s.normalRecord n = some r) (test : r.rescueTest = true) :
    s.rescue n = (s.dropToWaiting r .rescue).modStream n fun st => { st with rescuePending := true } := by
  unfold State.rescue
  rw [found]
  exact if_pos test

theorem State.rescue_of_no_test (no : ∀ r, s.normalRecord n = some r → r.rescueTest = false) : s.rescue n = s := by
  unfold State.rescue
  split
  · rename_i r found; rw [no r found]; exact if_neg Bool.false_ne_true
  · rfl

end Sys2Proof.Machine
end

section
namespace Sys2Proof.Machine

variable {s t : State} {n : Slot}

theorem State.probeRecord_congr (pool : t.pool = s.pool) (n : Slot) : t.probeRecord n = s.probeRecord n := by
  unfold State.probeRecord; rw [pool]

theorem State.normalRecord_congr (pool : t.pool = s.pool) (n : Slot) : t.normalRecord n = s.normalRecord n := by
  unfold State.normalRecord; rw [pool]

theorem State.settle_reach (s t : State) (e : Nat) : t.settle (s.reach e) = t.settle s := by
  unfold State.settle State.recordFreed State.holdCleared State.becameActive State.liveCount
  simp only [State.reach_stream, State.reach_pool]

/-- With the drain timer running, a drain step acts at its time and settles against the state before it (R75, R83). -/
theorem State.exec_drainStep {e : Nat} (running : s.phase = .running) (timer : (s.stream n).drainTimer = some e) :
    exec (.drainStep n) s = .next (((s.reach e).drainAct n).settle s) := by
  rw [← State.settle_reach s _ e]
  exact State.expiry_of_some running timer fun r => (r.drainAct n).settle r

/-- The arbitration after an event of one PLAYING stream: for a freed record or a hold that cleared (R83). -/
theorem State.settle_of_playing (playing : (s.stream n).state = .playing)
    (elsewhere : ∀ m, m ≠ n → (t.stream m).hold = (s.stream m).hold ∧ (t.stream m).active = (s.stream m).active) :
    t.settle s = if t.pool.records.length < s.pool.records.length ∨
      ((s.stream n).hold = true ∧ (t.stream n).hold = false) then t.arbitrate else t := by
  have active : (s.stream n).active = true := by unfold Stream.active; rw [playing]
  rw [State.settle_eq n elsewhere, active]
  simp only [Bool.true_eq_false, false_and, or_false]

/-- A freed record is an arbitration (R83). -/
theorem State.settle_of_freed (freed : t.pool.records.length < s.pool.records.length) : t.settle s = t.arbitrate := by
  refine if_pos ?_
  simp [State.recordFreed, State.liveCount, freed]

/-- The underrun handling up to the rescue (R16, R85). -/
def State.stalled (s : State) (n : Slot) : State := ((s.enterRebuffering n).fall n ((s.stream n).current - 2)).stallProbe n

theorem State.underrun_eq (s : State) (n : Slot) : s.underrun n = (s.stalled n).rescue n := by
  unfold State.underrun State.stalled
  dsimp only
  rw [State.enterRebuffering_current]

theorem State.enterRebuffering_fall_blocks (s : State) (n : Slot) (named : Nat) :
    s.SameBlocks ((s.enterRebuffering n).fall n named) :=
  (s.enterRebuffering_blocks n).trans (State.fall_blocks _ n named)

theorem State.stalled_elsewhere (s : State) (n : Slot) : s.SameElsewhere n (s.stalled n) :=
  ((s.enterRebuffering_elsewhere n).trans (State.fall_elsewhere _ n _)).trans (State.stallProbe_elsewhere _ n)

theorem State.stalled_records_le (s : State) (n : Slot) : (s.stalled n).pool.records.length ≤ s.pool.records.length := by
  unfold State.stalled
  rw [State.stallProbe_records, (s.enterRebuffering_fall_blocks n _).pool]
  exact List.length_filter_le _ _

theorem State.poolSound.normalRecord_stalled (h : s.poolSound) : (s.stalled n).normalRecord n = s.normalRecord n := by
  have same := s.enterRebuffering_fall_blocks n ((s.stream n).current - 2)
  unfold State.stalled
  rw [State.poolSound.normalRecord_stallProbe (h.congr same.pool (by rw [same.arb])), State.normalRecord_congr same.pool]

theorem State.normalRecord_stalled_mem (h : s.poolSound) {r : Record} (found : s.normalRecord n = some r) :
    r ∈ (s.stalled n).pool.records := by
  rw [← h.normalRecord_stalled] at found
  exact (State.mem_of_normalRecord n found).1

/-- An underrun whose normal record passes the rescue test frees that record (R86, R137). -/
theorem State.settle_underrun_of_test (h : t.poolSound) (records : t.pool.records = s.pool.records) {r : Record}
    (found : t.normalRecord n = some r) (test : r.rescueTest = true) :
    (t.underrun n).settle s =
      (((t.stalled n).dropToWaiting r .rescue).modStream n fun st => { st with rescuePending := true }).arbitrate := by
  have found' : (t.stalled n).normalRecord n = some r := h.normalRecord_stalled.trans found
  rw [State.underrun_eq, State.rescue_of_test found' test]
  refine State.settle_of_freed ?_
  rw [State.modStream_pool, State.dropToWaiting_records]
  have fewer := List.length_filter_lt_length_iff_exists (p := fun x : Record => x.tag != r.tag).mpr
    ⟨r, State.normalRecord_stalled_mem h found, by simp⟩
  exact lt_of_lt_of_le fewer (records ▸ t.stalled_records_le n)

theorem State.underrun_of_no_test (h : t.poolSound) (no : ∀ r, t.normalRecord n = some r → r.rescueTest = false) :
    t.underrun n = t.stalled n := by
  rw [State.underrun_eq, State.rescue_of_no_test]
  intro r found
  exact no r (h.normalRecord_stalled.symm.trans found)

/-- With the buffer queue empty and drain left over, a window or a final segment unknown is an underrun (R77). -/
theorem State.drainEnd_of_underrun {left : Nat} (empty : (s.stream n).buffer = []) (left_over : 0 < left)
    (more : (s.stream n).window ≠ [] ∨ (s.stream n).finalKnown = false) : s.drainEnd n left = s.underrun n := by
  unfold State.drainEnd
  dsimp only
  rw [if_pos ⟨empty, left_over⟩, if_neg]
  rintro ⟨none, known⟩
  rcases more with some | unknown
  · exact some none
  · rw [known] at unknown; cases unknown

/-- With the buffer queue empty and drain left over, an empty window with the final segment known is the end (R77). -/
theorem State.drainEnd_of_end {left : Nat} (empty : (s.stream n).buffer = []) (left_over : 0 < left)
    (none : (s.stream n).window = []) (known : (s.stream n).finalKnown = true) : s.drainEnd n left = s.endOfPresentation n := by
  unfold State.drainEnd
  dsimp only
  rw [if_pos ⟨empty, left_over⟩, if_pos ⟨none, known⟩]

theorem State.endOfPresentation_elsewhere (s : State) (n : Slot) (m : Slot) (other : m ≠ n) :
    ((s.endOfPresentation n).stream m).hold = (s.stream m).hold ∧
      ((s.endOfPresentation n).stream m).active = (s.stream m).active := by
  unfold State.endOfPresentation
  rw [State.reallocate_stream, State.raise_elsewhere _ n _ m other, State.modStream_elsewhere _ n _ m other,
    State.leavePlaying_elsewhere _ n _ m other]
  exact ⟨rfl, rfl⟩

end Sys2Proof.Machine

open Sys2Proof Sys2Proof.Machine

/-- Settles O42: the drain amount against the buffer queue decides between a queue left over, the end and an underrun, and
the settling of the PLAYING stream's event is the arbitration of the statement. -/
theorem drainStepDrainsTheBuffer : Obligations.DrainStepDrainsTheBuffer := by
  intro s n e ⟨pool, controlled, windows, _, _⟩ running timer st gained amount drained settled
  have playing : st.state = .playing := (controlled n).2.1.mp (by rw [timer]; rfl)
  obtain ⟨-, -, -, -, -, -, -, remains, -⟩ := windows n
  have pos : ∀ b ∈ st.buffer, 1 ≤ b.remaining := fun b hb => (remains b hb).1
  have drained_eq : ∀ b, drained b = (s.reach e).drainedTo n b (e + 10) := fun b => by
    unfold State.drainedTo; rw [State.reach_stream]; rfl
  have drained_stream : ∀ b, ∃ margin hold flags, (drained b).stream n = { st with
      acc := st.accGained % 256, buffer := b, drainTimer := some (e + 10), margin := margin, hold := hold,
      flags := flags } := fun b => by
    rw [drained_eq]
    have step := (s.reach e).drainedTo_stream n b (e + 10)
    rwa [State.reach_stream] at step
  have drained_elsewhere : ∀ b, s.SameElsewhere n (drained b) := fun b m other => by
    rw [drained_eq, (s.reach e).drainedTo_elsewhere n b _ m other, State.reach_stream]
  have drained_pool : ∀ b, (drained b).pool = s.pool := fun b => by
    rw [drained_eq, ((s.reach e).drainedTo_blocks n b _).pool, State.reach_pool]
  have drained_now : ∀ b, (drained b).now = (s.reach e).now := fun b => by
    rw [drained_eq, ((s.reach e).drainedTo_blocks n b _).now]
  have act : exec (.drainStep n) s = .next (((drained (drainQueue amount st.buffer).1).drainEnd n
      (drainQueue amount st.buffer).2).settle s) := by
    rw [State.exec_drainStep running timer, State.drainAct_eq (by rw [State.reach_stream]; exact timer), State.reach_stream,
      drained_eq]
    rfl
  have settles : ∀ t : State, (∀ m, m ≠ n → (t.stream m).hold = (s.stream m).hold ∧
      (t.stream m).active = (s.stream m).active) → t.settle s = settled t := fun t elsewhere =>
    State.settle_of_playing playing elsewhere
  have same : ∀ t : State, s.SameElsewhere n t → t.settle s = settled t := fun t elsewhere =>
    settles t fun m other => by rw [elsewhere m other]; exact ⟨rfl, rfl⟩
  have dry : st.occupancy ≤ amount → drainQueue amount st.buffer = ([], amount - st.occupancy) := drainQueue_dry _ pos
  obtain ⟨margin, hold, flags, left⟩ := drained_stream []
  refine ⟨fun gone b rest buffer reach short => ?_, fun meets => ?_, fun short window known => ?_, fun short more => ?_,
    fun m stopped => State.expiry_of_none running stopped _⟩
  · have queue := drainQueue_within gone (b := b) (rest := rest)
      (fun x hx => pos x (buffer ▸ List.mem_append_left _ hx)) reach short
    rw [act, buffer, queue, State.drainEnd_of_more (.inr rfl), same _ (drained_elsewhere _)]
  · rw [act, dry meets.le, State.drainEnd_of_more (.inr (by rw [meets]; exact Nat.sub_self _)), same _ (drained_elsewhere _)]
  · rw [act, dry short.le, State.drainEnd_of_end (by rw [left]) (Nat.sub_pos_of_lt short) (by rw [left]; exact window)
      (by rw [left]; exact known), settles, State.endOfPresentation_eq (by rw [left]; exact playing)]
    intro m other
    rw [← drained_elsewhere [] m other]
    exact State.endOfPresentation_elsewhere _ n m other
  · intro stalled unprobed
    have under : exec (.drainStep n) s = .next (((drained []).underrun n).settle s) := by
      rw [act, dry short.le, State.drainEnd_of_underrun (by rw [left]) (Nat.sub_pos_of_lt short) (by rw [left]; exact more)]
    have stalled_eq : ((drained []).enterRebuffering n).fall n (((drained []).stream n).current - 2) = stalled := by
      rw [State.enterRebuffering_eq (by rw [left]; exact playing), drained_now, left]
    have stalled_probe : stalled.probeRecord n = s.probeRecord n := State.probeRecord_congr
      (by rw [← stalled_eq, (State.enterRebuffering_fall_blocks _ n _).pool, drained_pool]) n
    have unprobed_eq : (drained []).stalled n = unprobed := by
      unfold State.stalled
      rw [stalled_eq]
      cases found : s.probeRecord n with
      | none =>
        rw [State.stallProbe_of_none (stalled_probe.trans found)]
        simp only [unprobed, found]
      | some r =>
        rw [State.stallProbe_of_record (stalled_probe.trans found)]
        simp only [unprobed, found]
    have sound : (drained []).poolSound := pool.congr (drained_pool [])
      (by rw [drained_eq, ((s.reach e).drainedTo_blocks n [] _).arb, State.reach_arb])
    have normal : (drained []).normalRecord n = s.normalRecord n := State.normalRecord_congr (drained_pool []) n
    refine ⟨fun r m found kind expected below rung => ?_, fun no => ?_⟩
    · have test := r.rescueTest_iff.mpr ⟨m, kind, expected, below, rung⟩
      rw [under, State.settle_underrun_of_test sound (by rw [drained_pool]) (normal.trans found) test, unprobed_eq]
    · rw [under, State.underrun_of_no_test sound, same _ _, unprobed_eq]
      · exact (drained_elsewhere []).trans (State.stalled_elsewhere _ n)
      · intro r found
        rw [Bool.eq_false_iff]
        intro test
        obtain ⟨m, kind, expected, both⟩ := r.rescueTest_iff.mp test
        exact no r m (normal.symm.trans found) kind expected both
end

section
namespace Sys2Proof.Machine

/-! ## What the length and field checks refuse (checks 2 and 3 of R160) -/

/-- A reading of a body refuses it by its length where the length does not fit, and by its fields where they are out of
range. -/
def Refused {α : Type} (fits out : Bool) (read : Except Status α) : Prop :=
  (fits = false → read = .error .badLength) ∧ (fits = true → out = true → read = .error .badField)

/-- A reading that asks the length first, then the fields. -/
theorem Refused.of_ite {α : Type} {fits out : Bool} {P : Prop} [Decidable P] {inner : Except Status α}
    (length : fits = true ↔ P) (fields : P → out = true → inner = .error .badField) :
    Refused fits out (if P then inner else .error .badLength) := by
  refine ⟨fun no => if_neg fun p => ?_, fun yes o => ?_⟩
  · rw [length.mpr p] at no; cases no
  · rw [if_pos (length.mp yes)]; exact fields (length.mp yes) o

/-- A reading that asks its fields by one condition. -/
theorem error_of_not {α : Type} {P : Prop} [Decidable P] {a : α} {e : Status} (no : ¬P) :
    (if P then .ok a else .error e : Except Status α) = .error e := if_neg no

theorem toSlot_eq_none_iff (k : Nat) : toSlot k = none ↔ 3 < k := by
  by_cases small : k < 4
  · simp only [toSlot, dif_pos small, reduceCtorEq, false_iff]; omega
  · simp only [toSlot, dif_neg small, true_iff]; omega

theorem toSlot_of_le {k : Nat} (h : ¬3 < k) : ∃ n, toSlot k = some n :=
  Option.ne_none_iff_exists'.mp fun none => h ((toSlot_eq_none_iff k).mp none)

theorem toAction_eq_none_iff : ∀ k : Nat, toAction k = none ↔ k = 0 ∨ 4 < k
  | 0 => by simp [toAction]
  | 1 | 2 | 3 | 4 => by simp [toAction]
  | k + 5 => by simp [toAction]

theorem parseEmpty_refused (body : List Byte) : Refused (body.length == 0) false (parseEmpty body) :=
  .of_ite (by simp) (fun _ no => by cases no)

theorem parseRestart_refused (body : List Byte) :
    Refused (body.length == 1) (decide (field body 0 1 ≠ 1 ∧ field body 0 1 ≠ 2)) (parseRestart body) := by
  refine .of_ite (by simp) fun _ out => ?_
  obtain ⟨one, two⟩ := of_decide_eq_true out
  rw [if_neg one, if_neg two]

theorem parseSlot_refused (body : List Byte) :
    Refused (body.length == 1) (decide (3 < field body 0 1)) (parseSlot body) := by
  refine .of_ite (by simp) fun _ out => ?_
  simp only [(toSlot_eq_none_iff _).mpr (of_decide_eq_true out)]

theorem parseCount_refused (body : List Byte) : Refused (body.length == 5) false (parseCount body) :=
  .of_ite (by simp) (fun _ no => by cases no)

theorem parseBroken_refused (body : List Byte) :
    Refused (body.length == 2) (decide (field body 1 1 = 0 ∨ 4 < field body 1 1)) (parseBroken body) := by
  refine .of_ite (by simp) fun _ out => error_of_not ?_
  have := of_decide_eq_true out
  omega

theorem parseLink_refused (body : List Byte) :
    Refused (body.length == 5)
      (decide (field body 0 2 = 0 ∨ 5000 < field body 0 2 ∨ 1000 < field body 2 2 ∨ 100 < field body 4 1)) (parseLink body) := by
  refine .of_ite (by simp) fun _ out => error_of_not ?_
  have := of_decide_eq_true out
  dsimp only
  omega

theorem parsePosition_refused (body : List Byte) :
    Refused (body.length == 7) (decide (3 < field body 0 1 ∨ 9999 < field body 5 2)) (parsePosition body) := by
  refine .of_ite (by simp) fun _ out => ?_
  by_cases slot : 3 < field body 0 1
  · simp only [(toSlot_eq_none_iff _).mpr slot]
  · obtain ⟨n, named⟩ := toSlot_of_le slot
    simp only [named]
    exact error_of_not (by have := of_decide_eq_true out; omega)

theorem parsePlayctl_refused (body : List Byte) :
    Refused (body.length == 2) (decide (3 < field body 0 1 ∨ field body 1 1 = 0 ∨ 4 < field body 1 1))
      (parsePlayctl body) := by
  refine .of_ite (by simp) fun _ out => ?_
  by_cases slot : 3 < field body 0 1
  · simp only [(toSlot_eq_none_iff _).mpr slot]
  · have action := (toAction_eq_none_iff _).mpr ((of_decide_eq_true out).resolve_left slot)
    obtain ⟨n, named⟩ := toSlot_of_le slot
    simp only [named, action]

theorem parseMask_refused (body : List Byte) :
    Refused (body.length == 9) (decide (16 ≤ field body 0 1 ∨ 2048 ≤ field body 1 2 ∨ 2048 ≤ field body 3 2 ∨
      2048 ≤ field body 5 2 ∨ 2048 ≤ field body 7 2)) (parseMask body) := by
  refine .of_ite (by simp) fun _ out => error_of_not ?_
  have := of_decide_eq_true out
  omega

theorem parseLimits_refused (body : List Byte) :
    Refused (body.length == 21) (outOfRange ⟨0x03, body⟩) (parseLimits body) := by
  refine .of_ite (by simp) fun _ out => error_of_not ?_
  rintro ⟨ranges, protect⟩
  simp only [limitsRangesOk, thresholdsOk, Bool.and_eq_true, decide_eq_true_eq] at ranges
  have bad := of_decide_eq_false ((Bool.not_eq_true' _).mp (show (!decide _) = true from out))
  dsimp only at bad
  exact bad (by omega)

theorem parseOpen_refused (body : List Byte) :
    Refused (body.length == 2 || body.length == 19) (outOfRange ⟨0x10, body⟩) (parseOpen body) := by
  refine .of_ite (by simp) fun length out => ?_
  have bad := of_decide_eq_true (show decide _ = true from out)
  by_cases slot : 3 < field body 0 1
  · simp only [(toSlot_eq_none_iff _).mpr slot]
  · obtain ⟨n, named⟩ := toSlot_of_le slot
    simp only [named]
    refine error_of_not fun ranges => ?_
    have ok := of_decide_eq_true ranges
    unfold openFields at ok
    dsimp only at bad
    split at ok <;> simp only [openConfig] at ok <;> omega

theorem parseTune_refused (body : List Byte) :
    Refused (body.length == 13) (outOfRange ⟨0x11, body⟩) (parseTune body) := by
  refine .of_ite (by simp) fun _ out => ?_
  have bad := of_decide_eq_true (show decide _ = true from out)
  by_cases slot : 3 < field body 0 1
  · simp only [(toSlot_eq_none_iff _).mpr slot]
  · obtain ⟨n, named⟩ := toSlot_of_le slot
    simp only [named]
    refine error_of_not ?_
    rintro ⟨ranges, yes⟩
    have ok := of_decide_eq_true ranges
    dsimp only at bad ok
    omega

end Sys2Proof.Machine
end

section
namespace Sys2Proof.Machine

/-! ### QUERY, LADDER and APPEND -/

theorem field_one_lt (body : List Byte) (off : Nat) : field body off 1 < 256 := by
  unfold field
  cases body.drop off with
  | nil => decide
  | cons b bs =>
    have := b.isLt
    simp only [List.take_succ_cons, List.take_zero, beNat, List.foldl_cons, List.foldl_nil]
    omega

theorem field_drop (body : List Byte) (k off len : Nat) : field (body.drop k) off len = field body (k + off) len := by
  rw [field, List.drop_drop, field]

theorem toPart_eq_none_iff : ∀ k : Nat, toPart k = none ↔ 2 < k
  | 0 | 1 | 2 => by simp [toPart]
  | k + 3 => by simp [toPart]

/-- A reading with a bound on the length before the rest. -/
theorem Refused.of_guard {α : Type} {fits out : Bool} {Q : Prop} [Decidable Q] {inner : Except Status α}
    (bound : Q → fits = false) (rest : ¬Q → Refused fits out inner) :
    Refused fits out (if Q then .error .badLength else inner) := by
  by_cases q : Q
  · rw [if_pos q]
    exact ⟨fun _ => rfl, fun yes => by rw [bound q] at yes; cases yes⟩
  · rw [if_neg q]
    exact rest q

theorem parseQuery_refused (body : List Byte) :
    Refused (lengthFits ⟨0x06, body⟩) (outOfRange ⟨0x06, body⟩) (parseQuery body) := by
  cases body with
  | nil => exact ⟨fun _ => rfl, fun no => by cases no⟩
  | cons view rest =>
    have code : field (view :: rest) 0 1 = view.toNat := by
      simp [beNat]
    have out_iff : outOfRange ⟨0x06, view :: rest⟩ = true ↔ view.toNat = 0 ∨ 3 < view.toNat ∨
        (view.toNat = 1 ∧ (3 < field (view :: rest) 1 1 ∨ 2 < field (view :: rest) 2 1)) := by
      rw [← code]; exact decide_eq_true_iff
    have fits_iff : lengthFits ⟨0x06, view :: rest⟩ = if view = 1 then (view :: rest).length == 3
      else if view = 2 then (view :: rest).length == 1
      else if view = 3 then (view :: rest).length == 2
      else decide ((view :: rest).length ≤ 3) := rfl
    rw [parseQuery, code]
    refine .of_guard (fun long => ?_) fun short => ?_
    · rw [fits_iff]
      simp only [List.length_cons] at long ⊢
      split_ifs <;> simp only [beq_eq_false_iff_ne, decide_eq_false_iff_not] <;> omega
    · rw [fits_iff]
      by_cases one : view = 1
      · subst one
        refine Refused.of_ite (P := ((1 : Byte) :: rest).length = 3) (by simp) fun _ out => ?_
        by_cases slot : 3 < field ((1 : Byte) :: rest) 1 1
        · simp only [(toSlot_eq_none_iff _).mpr slot]
        · obtain ⟨n, named⟩ := toSlot_of_le slot
          have part : 2 < field ((1 : Byte) :: rest) 2 1 := by
            rcases out_iff.mp out with zero | big | ⟨-, wrong⟩
            · cases zero
            · exact absurd big (by decide)
            · exact wrong.resolve_left slot
          simp only [named, (toPart_eq_none_iff _).mpr part]
      · by_cases two : view = 2
        · subst two
          exact Refused.of_ite (P := ((2 : Byte) :: rest).length = 1) (by simp) fun _ out => absurd (out_iff.mp out) (by simp)
        · by_cases three : view = 3
          · subst three
            exact Refused.of_ite (P := ((3 : Byte) :: rest).length = 2) (by simp) fun _ out => absurd (out_iff.mp out) (by simp)
          · rw [if_neg one, if_neg two, if_neg three]
            have other : ∀ k : Byte, view ≠ k → view.toNat ≠ k.toNat := fun k ne same => ne (BitVec.eq_of_toNat_eq same)
            have fits : decide ((view :: rest).length ≤ 3) = true := decide_eq_true (by omega)
            refine ⟨fun no => (by rw [fits] at no; cases no), fun _ _ => ?_⟩
            split
            · next same => exact absurd same (other 1 one)
            · next same => exact absurd same (other 2 two)
            · next same => exact absurd same (other 3 three)
            · rfl

/-! #### LADDER -/

/-- The rungs of a LADDER body by their offsets. -/
theorem parseRungs_drop (body : List Byte) : ∀ k off : Nat,
    parseRungs k (body.drop off) =
      (List.range k).map fun i => ⟨field body (off + 6 * i) 3, field body (off + 3 + 6 * i) 3⟩
  | 0, _ => rfl
  | k + 1, off => by
    rw [parseRungs, field_drop, field_drop, List.drop_drop, parseRungs_drop body k (off + 6), List.range_succ_eq_map,
      List.map_cons, List.map_map]
    refine congrArg₂ _ rfl (List.map_congr_left fun i _ => ?_)
    simp only [Function.comp, Nat.succ_eq_add_one]
    rw [show off + 6 + 6 * i = off + 6 * (i + 1) by omega, show off + 6 + 3 + 6 * i = off + 3 + 6 * (i + 1) by omega]

theorem ratesAscend_getElem : ∀ {l : List Rung}, ratesAscend l = true → ∀ i (h : i + 1 < l.length),
    l[i].rate < l[i + 1].rate
  | [], _, i, h => by simp at h
  | [_], _, i, h => by simp at h
  | a :: b :: rest, ascend, i, h => by
    simp only [ratesAscend, Bool.and_eq_true, decide_eq_true_eq] at ascend
    cases i with
    | zero => exact ascend.1
    | succ i => exact ratesAscend_getElem ascend.2 i (by simpa using h)

theorem ladder_length_iff (m : Nat) : [8, 14, 20, 26, 32, 38, 44, 50, 56, 62].contains m = true ↔
    m = 2 + 6 * ((m - 2) / 6) ∧ 1 ≤ (m - 2) / 6 ∧ (m - 2) / 6 ≤ 10 := by
  simp only [List.contains_iff_mem, List.mem_cons, List.not_mem_nil, or_false]
  omega

theorem parseLadder_refused (body : List Byte) :
    Refused (lengthFits ⟨0x12, body⟩) (outOfRange ⟨0x12, body⟩) (parseLadder body) := by
  refine .of_ite (ladder_length_iff _) fun length out => ?_
  by_cases slot : 3 < field body 0 1
  · simp only [(toSlot_eq_none_iff _).mpr slot]
  · obtain ⟨n, named⟩ := toSlot_of_le slot
    simp only [named]
    refine error_of_not ?_
    rintro ⟨count, ok⟩
    have bad : ladderOutOfRange body = true := out
    simp only [rungsOk, Bool.and_eq_true, List.all_eq_true, decide_eq_true_eq, parseRungs_drop body _ 2] at ok
    obtain ⟨ranges, ascend⟩ := ok
    simp only [ladderOutOfRange, Bool.or_eq_true, decide_eq_true_eq, List.any_eq_true, List.mem_range] at bad
    rcases bad with (fields | ⟨i, small, wrong⟩) | ⟨i, small, wrong⟩
    · omega
    · have := ranges _ (List.mem_map_of_mem (List.mem_range.mpr small))
      simp only [Nat.reduceAdd] at this
      omega
    · have := ratesAscend_getElem ascend i (by simp; omega)
      simp only [List.getElem_map, List.getElem_range] at this
      omega

end Sys2Proof.Machine
end

section
namespace Sys2Proof.Machine

/-! #### APPEND -/

theorem walkEnds_iff : ∀ (k : Nat) (bs : List Byte), walkEnds k bs = true ↔ ∃ es, walkEntries k bs = some (es, [])
  | 0, bs => by simp [walkEnds, walkEntries, List.isEmpty_iff]
  | k + 1, bs => by
    rw [walkEnds, walkEntries, Bool.and_eq_true, decide_eq_true_eq, walkEnds_iff k]
    by_cases long : 8 + 3 * field bs 7 1 ≤ bs.length
    · rw [if_neg (by omega)]
      constructor
      · rintro ⟨-, es, rest⟩
        rw [rest]
        exact ⟨_, rfl⟩
      · rintro ⟨es, whole⟩
        refine ⟨long, ?_⟩
        revert whole
        cases walkEntries k (bs.drop (8 + 3 * field bs 7 1)) with
        | none => exact nofun
        | some w =>
          obtain ⟨xs, behind⟩ := w
          intro whole
          cases whole
          exact ⟨xs, rfl⟩
    · rw [if_pos (by omega)]
      exact ⟨fun both => absurd both.1 long, nofun⟩

/-- The entry of an APPEND body at an offset. -/
def entryAt (body : List Byte) (o : Nat) : AppendEntry :=
  { segment := field body o 4, duration := field body (o + 4) 2, markers := byte (field body (o + 6) 1),
    sizes := parseSizes (field body (o + 7) 1) (body.drop (o + 8)) }

theorem walkEntries_drop (body : List Byte) : ∀ (k off : Nat) {es : List AppendEntry} {rest : List Byte},
    walkEntries k (body.drop off) = some (es, rest) → es = (entryOffsets body k off).map (entryAt body)
  | 0, off, es, rest, walk => by cases walk; rfl
  | k + 1, off, es, rest, walk => by
    rw [walkEntries] at walk
    split at walk
    · cases walk
    · simp only [field_drop, List.drop_drop, Nat.add_zero] at walk
      cases behind : walkEntries k (body.drop (off + (8 + 3 * field body (off + 7) 1))) with
      | none => rw [behind] at walk; cases walk
      | some w =>
        have tail := walkEntries_drop body k _ behind
        rw [behind] at walk
        cases walk
        rw [tail, entryOffsets, List.map_cons, Nat.add_assoc off 8]
        rfl

theorem length_entryOffsets (body : List Byte) : ∀ k off : Nat, (entryOffsets body k off).length = k
  | 0, _ => rfl
  | k + 1, off => by rw [entryOffsets, List.length_cons, length_entryOffsets body k]

theorem length_parseSizes : ∀ (k : Nat) (bs : List Byte), (parseSizes k bs).length = k
  | 0, _ => rfl
  | k + 1, bs => by rw [parseSizes, List.length_cons, length_parseSizes k]

theorem markers_entryAt (body : List Byte) (o : Nat) : (entryAt body o).markers.toNat = field body (o + 6) 1 := by
  rw [entryAt, byte_toNat, Nat.mod_eq_of_lt (field_one_lt _ _)]

theorem entryLast_of_markers {e : AppendEntry} (two : 2 ≤ e.markers.toNat) (four : e.markers.toNat < 4) :
    entryLast e = true := by
  rw [entryLast, ← BitVec.testBit_toNat]
  interval_cases e.markers.toNat <;> rfl

theorem consecutive_zip : ∀ {es : List AppendEntry}, consecutive es = true →
    ∀ o ∈ es.zip es.tail, o.2.segment = o.1.segment + 1
  | [], _, o, h => by simp at h
  | [_], _, o, h => by simp at h
  | a :: b :: rest, ascend, o, h => by
    simp only [consecutive, Bool.and_eq_true, decide_eq_true_eq] at ascend
    rw [List.tail_cons, List.zip_cons_cons, List.mem_cons] at h
    rcases h with rfl | h
    · exact ascend.1
    · exact consecutive_zip ascend.2 o h

/-- In range, the entries of an APPEND body are in range at every offset (R34, R35). -/
theorem not_appendOutOfRange {body : List Byte} {k : Nat} (slot : ¬3 < field body 0 1) (count : k = field body 1 1)
    (ok : appendRanges ((entryOffsets body k 2).map (entryAt body)) = true) : appendOutOfRange body ≠ true := by
  simp only [appendRanges, Bool.and_eq_true, decide_eq_true_eq, List.all_eq_true, List.length_map, length_entryOffsets,
    ← List.map_dropLast] at ok
  obtain ⟨⟨⟨number, ranges⟩, ascend⟩, last⟩ := ok
  have inRange : ∀ o ∈ entryOffsets body k 2, 500 ≤ field body (o + 4) 2 ∧ field body (o + 4) 2 ≤ 10000 ∧
      field body (o + 6) 1 < 4 ∧ field body (o + 7) 1 ≤ 10 := fun o ho => by
    have here := ranges _ (List.mem_map_of_mem ho)
    rwa [markers_entryAt, entryAt, length_parseSizes] at here
  intro bad
  simp only [appendOutOfRange, ← count, Bool.or_eq_true, decide_eq_true_eq, List.any_eq_true] at bad
  rcases bad with ((fields | ⟨o, ho, wrong⟩) | ⟨o, ho, wrong⟩) | ⟨o, ho, wrong⟩
  · omega
  · have := inRange o ho
    omega
  · refine wrong (consecutive_zip ascend (entryAt body o.1, entryAt body o.2) ?_)
    rw [← List.map_tail, List.zip_map]
    exact List.mem_map_of_mem (f := Prod.map (entryAt body) (entryAt body)) ho
  · have small := (inRange o (List.dropLast_subset _ ho)).2.2.1
    have set := entryLast_of_markers (by rw [markers_entryAt]; exact wrong) (by rw [markers_entryAt]; exact small)
    have clear := last _ (List.mem_map_of_mem ho)
    rw [set] at clear
    cases clear

theorem parseAppend_refused (body : List Byte) :
    Refused (lengthFits ⟨0x13, body⟩) (outOfRange ⟨0x13, body⟩) (parseAppend body) := by
  have fits_iff : lengthFits ⟨0x13, body⟩ = true ↔
      2 ≤ body.length ∧ ∃ es, walkEntries (field body 1 1) (body.drop 2) = some (es, []) := by
    rw [← walkEnds_iff, ← decide_eq_true_iff (p := 2 ≤ body.length), ← Bool.and_eq_true]
    exact Iff.rfl
  refine .of_guard (fun short => ?_) fun long => ⟨fun no => ?_, fun yes out => ?_⟩
  · rw [← Bool.not_eq_true, fits_iff]
    omega
  · split
    · next es walk =>
      rw [fits_iff.mpr ⟨by omega, es, walk⟩] at no
      cases no
    · rfl
  · obtain ⟨-, es, walk⟩ := fits_iff.mp yes
    simp only [walk]
    by_cases slot : 3 < field body 0 1
    · simp only [(toSlot_eq_none_iff _).mpr slot]
    · obtain ⟨n, named⟩ := toSlot_of_le slot
      simp only [named]
      refine error_of_not fun ok => not_appendOutOfRange slot rfl ?_ out
      rw [← walkEntries_drop body _ 2 walk]
      exact ok

end Sys2Proof.Machine
end

section
namespace Sys2Proof.Machine

/-! ### The rows -/

variable {s : State} {α β : Type} {kind : Byte} {body : List Byte} {check : State → Except Status β}
  {act : β → State → State} {read : Except Status α}

/-- A frame at the door whose length does not fit, or whose fields are out of range, is answered so and changes nothing
else (R160). -/
def State.answersMalformed (s : State) (f : Frame) (out : Out) : Prop :=
  (lengthFits f = false → out = .next (s.popFrame.pushTx (.reply (f.kind + 0x80) [0x02]))) ∧
  (lengthFits f = true → outOfRange f = true → out = .next (s.popFrame.pushTx (.reply (f.kind + 0x80) [0x03])))

/-- A row whose checks begin with the reading of the body answers what the reading refuses. -/
theorem State.answersMalformed_request (door : s.atDoor ⟨kind, body⟩) (low : replyKind kind = kind + 0x80)
    (refused : Refused (lengthFits ⟨kind, body⟩) (outOfRange ⟨kind, body⟩) read)
    (first : ∀ e, read = .error e → check s.popFrame = .error e) :
    s.answersMalformed ⟨kind, body⟩ (.next (s.request kind body check act)) := by
  have answer : ∀ e : Status, read = .error e → (Host.Outcome.next (s.request kind body check act) : Out) =
      .next (s.popFrame.pushTx (.reply (kind + 0x80) [e.code])) := fun e h => by
    rw [← low]
    exact State.next_request_of_error door (first e h)
  exact ⟨fun no => answer _ (refused.1 no), fun yes out => answer _ (refused.2 yes out)⟩

/-- A row that shares its kind answers what the reading refuses, since that names no row (log entry 3). -/
theorem State.answersMalformed_requestIf {own : Bool} (door : s.atDoor ⟨kind, body⟩) (low : replyKind kind = kind + 0x80)
    (refused : Refused (lengthFits ⟨kind, body⟩) (outOfRange ⟨kind, body⟩) read) (row : ∀ e, read = .error e → own = true)
    (first : ∀ e, read = .error e → check s.popFrame = .error e) :
    s.answersMalformed ⟨kind, body⟩ (.next (s.requestIf own kind body check act)) := by
  cases named : own with
  | true => exact State.answersMalformed_request door low refused first
  | false =>
    have none : ∀ e, read ≠ .error e := fun e h => by rw [row e h] at named; cases named
    exact ⟨fun no => absurd (refused.1 no) (none _), fun yes out => absurd (refused.2 yes out) (none _)⟩

theorem State.openStream_of_error {slot : α → Slot} {e : Status} (h : read = .error e) :
    s.openStream read slot = .error e := by rw [h]; rfl

theorem State.checkPlayctl_of_error {allowed : Stream → Bool} {e : Status} (h : parsePlayctl body = .error e) :
    s.checkPlayctl body allowed = .error e := by
  rw [State.checkPlayctl, State.openStream_of_error h]

theorem State.answersMalformed_playctl {a : PlayAction} {allowed : Stream → Bool} {act : PlayctlReq → State → State}
    (door : s.atDoor ⟨0x14, body⟩) : s.answersMalformed ⟨0x14, body⟩
      (.next (s.requestIf (playctlRow a body) 0x14 body (fun s => s.checkPlayctl body allowed) act)) :=
  State.answersMalformed_requestIf door rfl (parsePlayctl_refused body) (fun e h => by rw [playctlRow, h])
    fun e h => State.checkPlayctl_of_error h

theorem State.answersMalformed_query {own : Bool} {act : List Byte → State → State} (door : s.atDoor ⟨0x06, body⟩)
    (row : ∀ e, parseQuery body = .error e → own = true) : s.answersMalformed ⟨0x06, body⟩
      (.next (s.requestIf own 0x06 body (fun s => s.checkQuery body) act)) :=
  State.answersMalformed_requestIf door rfl (parseQuery_refused body) row fun e h => by rw [State.checkQuery, h]

end Sys2Proof.Machine

open Sys2Proof Sys2Proof.Machine

/-- Settles O12: each row's checks begin with the reading of its body, and each reading refuses what the length and the
fields name. -/
theorem malformedRequestsAreRefused : Obligations.MalformedRequestsAreRefused := by
  intro c f s frame _ known door
  change s.answersMalformed f (exec c s)
  cases c with
  | unknownKindRequest kind body => exact absurd rfl (known kind body)
  | ident body =>
    cases frame
    exact State.answersMalformed_request door rfl (parseEmpty_refused body) fun _ h => h
  | restartStreams body =>
    cases frame
    exact State.answersMalformed_requestIf door rfl (parseRestart_refused body) (fun e h => by rw [restartRow, h])
      fun _ h => h
  | restartAll body =>
    cases frame
    exact State.answersMalformed_requestIf door rfl (parseRestart_refused body) (fun e h => by rw [restartRow, h])
      fun _ h => h
  | limits body =>
    cases frame
    exact State.answersMalformed_request door rfl (parseLimits_refused body) fun _ h => h
  | mask body =>
    cases frame
    exact State.answersMalformed_request door rfl (parseMask_refused body) fun _ h => h
  | flags body =>
    cases frame
    exact State.answersMalformed_request door rfl (parseEmpty_refused body) fun _ h => h
  | queryStream body =>
    cases frame
    exact State.answersMalformed_query door fun e h => by rw [queryStreamRow, h]
  | queryLink body =>
    cases frame
    exact State.answersMalformed_query door fun e h => by rw [queryLinkRow, h]
  | queryRecord body =>
    cases frame
    exact State.answersMalformed_query door fun e h => by rw [queryRecordRow, h]
  | openSlot body =>
    cases frame
    exact State.answersMalformed_request door rfl (parseOpen_refused body) fun e h => by rw [State.checkOpen, h]
  | tune body =>
    cases frame
    exact State.answersMalformed_request door rfl (parseTune_refused body) fun e h => State.openStream_of_error h
  | ladder body =>
    cases frame
    exact State.answersMalformed_request door rfl (parseLadder_refused body) fun e h => by
      rw [State.checkLadder, State.openStream_of_error h]
  | append body =>
    cases frame
    exact State.answersMalformed_request door rfl (parseAppend_refused body) fun e h => by rw [State.checkAppend, h]
  | play body => cases frame; exact State.answersMalformed_playctl door
  | pause body => cases frame; exact State.answersMalformed_playctl door
  | seek body => cases frame; exact State.answersMalformed_playctl door
  | stop body => cases frame; exact State.answersMalformed_playctl door
  | close body =>
    cases frame
    exact State.answersMalformed_request door rfl (parseSlot_refused body) fun e h => State.openStream_of_error h
  | position body =>
    cases frame
    exact State.answersMalformed_request door rfl (parsePosition_refused body) fun e h => by
      rw [State.checkPosition, State.openStream_of_error h]
  | probe body =>
    cases frame
    exact State.answersMalformed_request door rfl (parseSlot_refused body) fun e h => by
      rw [State.checkProbe, State.openStream_of_error h]
  | tally body =>
    cases frame
    exact State.answersMalformed_request door rfl (parseCount_refused body) fun e h => by rw [State.checkCount, h]
  | landed body =>
    cases frame
    exact State.answersMalformed_request door rfl (parseCount_refused body) fun e h => by rw [State.checkCount, h]
  | broken body =>
    cases frame
    exact State.answersMalformed_request door rfl (parseBroken_refused body) fun e h => by rw [State.checkBroken, h]
  | link body =>
    cases frame
    exact State.answersMalformed_request door rfl (parseLink_refused body) fun _ h => h
  | _ => cases frame
end

section
namespace Sys2Proof.Machine

/-! ## Entry to JAMMED: the transmit queue (R23, R57, R58, R178) -/

/-- The FETCH of one of the records that is withdrawn with it (R58). -/
def withdrawnWith (rs : List Record) (f : TxFrame) : Bool := rs.any fun x => x.announcePending && f.isFetchOf x.tag

/-- A GATE of the slot of one of the records. -/
def gateAmong (ps : List Record) (f : TxFrame) : Bool := ps.any fun x => f.isGateOf x.slot

/-- The DROP directives of the announced among the records (R57). -/
def zoneDrops (rs : List Record) : List TxFrame := (rs.filter fun x => !x.announcePending).map fun x => .drop x.tag .zone

/-- From `s` to `t` the records `rs` are dropped with reason ZONE: a summary once true stays so, and the queue, the GATEs of
the slots of `ps` apart, loses the FETCHes withdrawn and gains the DROPs and the NOTE called for. -/
structure State.QueueAfter (ps rs : List Record) (s t : State) : Prop where
  summary : s.summary = true → t.summary = true
  waiting : t.noteWaiting = (s.noteWaiting || (!s.summary && t.summary))
  queue : ∃ added, added.Perm (zoneDrops rs ++ noteFor s t) ∧
    t.tx.queue.filter (fun f => !gateAmong ps f) =
      s.tx.queue.filter (fun f => !withdrawnWith rs f && !gateAmong ps f) ++ added

theorem gateAmong_of_not_gate (ps : List Record) {f : TxFrame} (h : ∀ n, f.isGateOf n = false) : gateAmong ps f = false := by
  simp [gateAmong, h]

theorem withdrawnWith_of_not_fetch (rs : List Record) {f : TxFrame} (h : ∀ tag, f.isFetchOf tag = false) :
    withdrawnWith rs f = false := by
  simp [withdrawnWith, h]

theorem mem_noteFor {s t : State} {f : TxFrame} (h : f ∈ noteFor s t) : f = .note := by
  unfold noteFor at h
  split at h
  · exact List.mem_singleton.mp h
  · cases h

/-- The frames that join are DROPs and NOTEs. -/
theorem withdrawnWith_of_added (rs : List Record) {rs' : List Record} {s t : State} {f : TxFrame}
    (h : f ∈ zoneDrops rs' ++ noteFor s t) : withdrawnWith rs f = false := by
  refine withdrawnWith_of_not_fetch rs fun tag => ?_
  rcases List.mem_append.mp h with drop | note
  · obtain ⟨x, -, rfl⟩ := List.mem_map.mp drop
    rfl
  · rw [mem_noteFor note]
    rfl

variable {ps rs rs' : List Record} {s t u : State}

/-- Two changes in turn call the one NOTE that the whole calls (R178). -/
theorem noteFor_append (before : s.summary = true → t.summary = true) (after : t.summary = true → u.summary = true)
    (waiting : t.noteWaiting = (s.noteWaiting || (!s.summary && t.summary))) :
    noteFor s t ++ noteFor t u = noteFor s u := by
  unfold noteFor
  rw [waiting]
  cases hs : s.summary with
  | true => simp [before hs]
  | false =>
    cases ht : t.summary with
    | true => simp [after ht]
    | false => simp

theorem State.QueueAfter.trans (first : State.QueueAfter ps rs s t) (second : State.QueueAfter ps rs' t u) :
    State.QueueAfter ps (rs ++ rs') s u where
  summary h := second.summary (first.summary h)
  waiting := by
    rw [second.waiting, first.waiting]
    cases hs : s.summary with
    | true => simp [first.summary hs]
    | false =>
      cases ht : t.summary with
      | true => simp [second.summary ht]
      | false => simp
  queue := by
    obtain ⟨a, perm, queue⟩ := first.queue
    obtain ⟨b, perm', queue'⟩ := second.queue
    refine ⟨a ++ b, ?_, ?_⟩
    · have drops : zoneDrops (rs ++ rs') = zoneDrops rs ++ zoneDrops rs' := by simp [zoneDrops]
      rw [drops, ← noteFor_append first.summary second.summary first.waiting]
      refine (perm.append perm').trans ?_
      simp only [List.append_assoc]
      refine List.Perm.append_left _ ?_
      rw [← List.append_assoc, ← List.append_assoc]
      exact List.perm_append_comm.append_right _
    · have kept : a.filter (fun f => !withdrawnWith rs' f) = a := List.filter_eq_self.mpr fun f hf => by
        rw [withdrawnWith_of_added rs' (perm.subset hf)]; rfl
      rw [queue', ← List.filter_filter, queue, List.filter_append, kept, List.filter_filter, List.append_assoc]
      refine congrArg (· ++ (a ++ b)) (List.filter_congr fun f _ => ?_)
      rw [withdrawnWith, withdrawnWith, withdrawnWith, List.any_append, Bool.not_or, ← Bool.and_assoc]
      exact congrArg (· && _) (Bool.and_comm _ _)

/-- Records dropped in any order come to the same. -/
theorem State.QueueAfter.perm (h : State.QueueAfter ps rs s t) (order : rs.Perm rs') : State.QueueAfter ps rs' s t where
  summary := h.summary
  waiting := h.waiting
  queue := by
    obtain ⟨a, perm, queue⟩ := h.queue
    have same : withdrawnWith rs = withdrawnWith rs' := funext fun f => order.any_eq
    have drops : (zoneDrops rs).Perm (zoneDrops rs') := (order.filter _).map _
    exact ⟨a, perm.trans (drops.append_right _), same ▸ queue⟩

/-- A change that leaves the queue and calls nothing. -/
theorem State.QueueAfter.of_eq (ps : List Record) (queue : t.tx.queue = s.tx.queue) (summary : t.summary = s.summary) :
    State.QueueAfter ps [] s t where
  summary h := by rw [summary, h]
  waiting := by
    rw [State.noteWaiting, queue, summary]
    cases s.summary <;> simp [State.noteWaiting]
  queue := ⟨[], by rw [noteFor_of_summary_eq summary]; exact .refl _, by rw [queue, List.append_nil]; rfl⟩

/-- A change that raises: the NOTE it calls for joins. -/
theorem State.QueueAfter.of_note (ps : List Record) (queue : t.tx.queue = s.tx.queue ++ noteFor s t)
    (summary : s.summary = true → t.summary = true) : State.QueueAfter ps [] s t where
  summary := summary
  waiting := by
    rw [State.noteWaiting, queue, List.any_append]
    change (s.noteWaiting || _) = _
    unfold noteFor
    cases hs : s.summary <;> cases ht : t.summary <;> cases hw : s.noteWaiting <;> simp [TxFrame.isNote]
  queue := by
    have kept : (noteFor s t).filter (fun f => !gateAmong ps f) = noteFor s t := List.filter_eq_self.mpr fun f hf => by
      rw [mem_noteFor hf, gateAmong_of_not_gate ps fun _ => rfl]; rfl
    exact ⟨noteFor s t, .refl _, by rw [queue, List.filter_append, kept]; rfl⟩

theorem filter_replaceGate {p : TxFrame → Bool} {n : Slot} {g : TxFrame} (gates : ∀ f, f.isGateOf n = true → p f = false)
    (here : p g = false) (q : List TxFrame) : (replaceGate n g q).filter p = q.filter p := by
  induction q with
  | nil => rfl
  | cons f q ih =>
    unfold replaceGate
    split
    · next gate => rw [List.filter_cons_of_neg (by simp [here]), List.filter_cons_of_neg (by simp [gates f gate])]
    · rw [List.filter_cons, List.filter_cons, ih]

/-- A GATE of a slot of `ps` is placed. -/
theorem State.QueueAfter.of_gate {x : Record} (mem : x ∈ ps) {o : Bool} {r : GateReason}
    (queue : t.tx.queue = placeGate s.tx.queue x.slot o r) (summary : t.summary = s.summary) :
    State.QueueAfter ps [] s t where
  summary h := by rw [summary, h]
  waiting := by
    have note : (placeGate s.tx.queue x.slot o r).any TxFrame.isNote = s.tx.queue.any TxFrame.isNote := by
      unfold placeGate
      split
      · have same := map_replaceGate (p := TxFrame.isNote) (n := x.slot) (o := o) (r := r) (fun _ _ => rfl) s.tx.queue
        have any := congrArg (fun l : List Bool => l.any id) same
        simp only [List.any_map] at any
        exact any
      · simp [TxFrame.isNote]
    rw [State.noteWaiting, queue, note, summary]
    cases s.summary <;> simp [State.noteWaiting]
  queue := by
    have lost : ∀ f : TxFrame, f.isGateOf x.slot = true → (!gateAmong ps f) = false := fun f gate => by
      rw [gateAmong, List.any_eq_true.mpr ⟨x, mem, gate⟩]; rfl
    have here := lost (.gate x.slot o r) (by simp [TxFrame.isGateOf])
    refine ⟨[], by rw [noteFor_of_summary_eq summary]; exact .refl _, ?_⟩
    rw [queue, List.append_nil]
    unfold placeGate
    split
    · exact filter_replaceGate lost here _
    · rw [List.filter_append, List.filter_cons_of_neg (by simp [here]), List.filter_nil, List.append_nil]
      rfl

/-- One record is dropped with reason ZONE. -/
theorem State.QueueAfter.of_drop (ps : List Record) {r : Record} (queue : t.tx.queue = queueAfterDrop s.tx.queue r .zone)
    (summary : t.summary = s.summary) : State.QueueAfter ps [r] s t where
  summary h := by rw [summary, h]
  waiting := by
    rw [State.noteWaiting, queue, any_isNote_queueAfterDrop, summary]
    cases s.summary <;> simp [State.noteWaiting]
  queue := by
    rw [queue, noteFor_of_summary_eq summary, queueAfterDrop]
    cases pending : r.announcePending with
    | true =>
      refine ⟨[], by simp [zoneDrops, pending], ?_⟩
      rw [if_pos rfl, List.filter_filter, List.append_nil]
      exact List.filter_congr fun f _ => by simp [withdrawnWith, pending, Bool.and_comm]
    | false =>
      refine ⟨[.drop r.tag .zone], by simp [zoneDrops, pending], ?_⟩
      have stays : gateAmong ps (.drop r.tag .zone) = false := gateAmong_of_not_gate ps fun _ => rfl
      rw [if_neg Bool.false_ne_true, List.filter_append, List.filter_cons_of_pos (by simp [stays]), List.filter_nil]
      exact congrArg (· ++ _) (List.filter_congr fun f _ => by simp [withdrawnWith, pending])

end Sys2Proof.Machine
end

section
namespace Sys2Proof.Machine

/-! ### The queue and the GATEs through the drop of a PROBE record -/

variable {ps : List Record} {s t : State} {n : Slot}

theorem State.raise_summary (s : State) (n : Slot) (f : StreamFlag) (h : s.summary = true) : (s.raise n f).summary = true := by
  rw [State.summary_iff] at h ⊢
  rcases h with device | ⟨m, calls⟩
  · exact .inl (by rw [State.deviceCalls, (s.raise_blocks n f).dev]; exact device)
  · refine .inr ⟨m, ?_⟩
    rw [Stream.calls_iff] at calls ⊢
    obtain ⟨i, set, unmasked⟩ := calls
    rw [State.raise_stream]
    split
    · exact ⟨i, by simp [withFlag, set], unmasked⟩
    · exact ⟨i, set, unmasked⟩

theorem State.raiseDevice_summary (s : State) (f : DeviceFlag) (h : s.summary = true) : (s.raiseDevice f).summary = true := by
  rw [State.summary_iff] at h ⊢
  rcases h with device | ⟨m, calls⟩
  · refine .inl ?_
    rw [State.deviceCalls_iff] at device ⊢
    obtain ⟨i, set, unmasked⟩ := device
    rw [State.raiseDevice_dev]
    exact ⟨i, by simp [withFlag, set], unmasked⟩
  · exact .inr ⟨m, by rw [State.raiseDevice_stream]; exact calls⟩

theorem State.QueueAfter.raise (ps : List Record) (s : State) (n : Slot) (f : StreamFlag) :
    State.QueueAfter ps [] s (s.raise n f) := .of_note ps (s.raise_queue n f) (s.raise_summary n f)

theorem State.QueueAfter.raiseDeviceIf (ps : List Record) (s : State) (c : Bool) (f : DeviceFlag) :
    State.QueueAfter ps [] s (s.raiseDeviceIf c f) := by
  cases c with
  | true => exact .of_note ps (s.raiseDevice_queue f) (s.raiseDevice_summary f)
  | false => exact .of_eq ps rfl rfl

/-- A change of a stream's other fields than flags and mask. -/
theorem State.QueueAfter.modStream (ps : List Record) (s : State) (n : Slot) {f : Stream → Stream}
    (quiet : ∀ st, (f st).flags = st.flags ∧ (f st).mask = st.mask) : State.QueueAfter ps [] s (s.modStream n f) :=
  .of_eq ps (by rw [State.modStream_tx]) (State.summary_congr rfl fun m => by
    rw [State.stream_modStream]; split
    · exact quiet _
    · exact ⟨rfl, rfl⟩)

theorem State.QueueAfter.fall (ps : List Record) (s : State) (n : Slot) (c : Nat) :
    State.QueueAfter ps [] s (s.fall n c) :=
  .modStream ps s n fun st => by split <;> exact ⟨rfl, rfl⟩

theorem State.QueueAfter.reevaluate (ps : List Record) (s : State) (n : Slot) :
    State.QueueAfter ps [] s (s.reevaluate n) := by
  have measured := State.QueueAfter.modStream ps s n
    (f := fun st => { st with margin := st.marginLevel, hold := st.holdEval }) fun _ => ⟨rfl, rfl⟩
  unfold State.reevaluate State.raiseIf
  dsimp only
  split
  · exact measured.trans (.raise ps _ n _)
  · exact measured

theorem State.QueueAfter.readinessTest {x : Record} (mem : x ∈ ps) (s : State) :
    State.QueueAfter ps [] s (s.readinessTest x.slot) := by
  unfold State.readinessTest
  split
  · refine .of_gate mem (o := true) (r := (s.stream x.slot).readyReason) ?_ (State.summary_congr ?_ fun m => ?_)
    · rw [State.enterPlaying, State.pushGate_eq]; rfl
    · rw [(s.enterPlaying_blocks x.slot _).dev]
    · by_cases same : m = x.slot
      · subst same; rw [State.enterPlaying_stream]; exact ⟨rfl, rfl⟩
      · rw [s.enterPlaying_elsewhere x.slot _ m same]; exact ⟨rfl, rfl⟩
  · exact .of_eq ps rfl rfl

theorem State.dropRecord_summary (s : State) (r : Record) (d : DropReason) : (s.dropRecord r d).summary = s.summary :=
  State.summary_congr (s.dropRecord_shell r d).dev fun m => by
    rw [State.dropRecord_stream]; split <;> exact ⟨rfl, rfl⟩

/-- The drop of a PROBE record as entry to JAMMED takes it (R57, R118, R153). -/
theorem State.QueueAfter.failProbe {r : Record} (mem : r ∈ ps) (s : State) :
    State.QueueAfter ps [r] s (s.failProbe r .zone) := by
  have dropped : State.QueueAfter ps [r] s (s.dropRecord r .zone) :=
    .of_drop ps (s.dropRecord_queue r .zone) (s.dropRecord_summary r .zone)
  have returned : State.QueueAfter ps [r] s ((s.dropRecord r .zone).returnEntry r.slot r.segment) :=
    dropped.trans (.modStream ps _ _ fun _ => ⟨rfl, rfl⟩)
  have measured : State.QueueAfter ps [r] s (s.dropToWaiting r .zone) :=
    (returned.trans (.reevaluate ps _ r.slot)).trans (.readinessTest mem _)
  exact ((measured.trans (.fall ps _ r.slot _)).trans (.raise ps _ r.slot _)).trans
    (.modStream ps _ r.slot (f := fun st => { st with probeLive := false }) fun _ => ⟨rfl, rfl⟩)

theorem State.QueueAfter.failProbes (rs : List Record) : ∀ s : State, (∀ r ∈ rs, r ∈ ps) →
    State.QueueAfter ps rs s (rs.foldl (fun s r => s.failProbe r .zone) s) := by
  induction rs with
  | nil => exact fun s _ => .of_eq ps rfl rfl
  | cons r rs ih =>
    intro s mem
    exact (State.QueueAfter.failProbe (mem r List.mem_cons_self) s).trans
      (ih _ fun x hx => mem x (List.mem_cons_of_mem _ hx))

/-! ### The number of GATEs of a slot -/

/-- The GATEs of slot n that wait. -/
def State.gates (s : State) (n : Slot) : Nat := (s.tx.queue.filter (TxFrame.isGateOf n)).length

theorem State.gates_of_note (queue : t.tx.queue = s.tx.queue ++ noteFor s t) (n : Slot) : t.gates n = s.gates n := by
  have none : (noteFor s t).filter (TxFrame.isGateOf n) = [] := List.filter_eq_nil_iff.mpr fun f hf => by
    rw [mem_noteFor hf]; exact Bool.false_ne_true
  rw [State.gates, queue, List.filter_append, none, List.append_nil, State.gates]

theorem State.gates_of_queue (queue : t.tx.queue = s.tx.queue) (n : Slot) : t.gates n = s.gates n := by
  rw [State.gates, queue, State.gates]

theorem State.raise_gates (s : State) (m : Slot) (f : StreamFlag) (n : Slot) : (s.raise m f).gates n = s.gates n :=
  State.gates_of_note (s.raise_queue m f) n

theorem State.raiseDeviceIf_gates (s : State) (c : Bool) (f : DeviceFlag) (n : Slot) :
    (s.raiseDeviceIf c f).gates n = s.gates n := by
  cases c with
  | true => exact State.gates_of_note (s.raiseDevice_queue f) n
  | false => rfl

theorem State.modStream_gates (s : State) (m : Slot) (f : Stream → Stream) (n : Slot) :
    (s.modStream m f).gates n = s.gates n := State.gates_of_queue (by rw [State.modStream_tx]) n

theorem State.reevaluate_gates (s : State) (m n : Slot) : (s.reevaluate m).gates n = s.gates n :=
  State.gates_of_note (s.reevaluate_queue m) n

theorem State.readinessTest_gates (s : State) (m n : Slot) :
    (s.readinessTest m).gates n ≤ s.gates n + if m = n then 1 else 0 := by
  unfold State.readinessTest
  split
  · rw [State.enterPlaying, State.pushGate_eq, State.gates, State.gates]
    change ((placeGate s.tx.queue m true (s.stream m).readyReason).filter _).length ≤ _
    unfold placeGate
    split
    · rw [length_filter_replaceGate (fun _ _ => rfl)]; omega
    · by_cases same : m = n
      · simp [List.filter_append, TxFrame.isGateOf, same]
      · simp [List.filter_append, TxFrame.isGateOf, same]
  · omega

theorem State.dropRecord_gates (s : State) (r : Record) (d : DropReason) (n : Slot) : (s.dropRecord r d).gates n ≤ s.gates n := by
  rw [State.gates, State.gates, State.dropRecord_queue, queueAfterDrop]
  split
  · exact (List.filter_sublist.filter _).length_le
  · simp [List.filter_append, TxFrame.isGateOf]

theorem State.failProbe_gates (s : State) (r : Record) (d : DropReason) (n : Slot) :
    (s.failProbe r d).gates n ≤ s.gates n + if r.slot = n then 1 else 0 := by
  have failed : (s.failProbe r d).gates n = (s.dropToWaiting r d).gates n := by
    rw [State.failProbe, State.probeFailure, State.modStream_gates, State.raise_gates, State.fall, State.modStream_gates]
  have measured : (s.dropToWaiting r d).gates n ≤ (s.dropRecord r d).gates n + if r.slot = n then 1 else 0 := by
    refine (State.readinessTest_gates _ r.slot n).trans_eq ?_
    rw [State.reevaluate_gates, State.returnEntry, State.modStream_gates]
  have dropped := s.dropRecord_gates r d n
  omega

theorem State.failProbes_gates (d : DropReason) (n : Slot) (rs : List Record) : ∀ s : State,
    (rs.foldl (fun s r => s.failProbe r d) s).gates n ≤ s.gates n + (rs.filter fun r => r.slot == n).length := by
  induction rs with
  | nil => exact fun _ => le_refl _
  | cons r rs ih =>
    intro s
    have first := s.failProbe_gates r d n
    have rest := ih (s.failProbe r d)
    rw [List.foldl_cons, List.filter_cons]
    by_cases here : r.slot = n
    · simp only [here, if_true, beq_self_eq_true, List.length_cons] at first ⊢
      omega
    · simp only [here, if_false, beq_iff_eq] at first ⊢
      omega

end Sys2Proof.Machine
end

section
namespace Sys2Proof.Machine

/-! ### The stream and the pool through the drop of a PROBE record in JAMMED (R33, R118, R153) -/

/-- The stream once a record of it is dropped and its entry is WAITING again (R33, R51). -/
def Stream.returned (st : Stream) (r : Record) : Stream :=
  { st with
    prevGrant := if r.announcePending then none else st.prevGrant,
    window := changeEntry r.segment WindowEntry.returned st.window }

/-- The stream with margin and hold re-evaluated (R79, R82). -/
def Stream.measured (st : Stream) : Stream :=
  { st with
    margin := st.marginLevel, hold := st.holdEval,
    flags := if st.marginLevel = st.margin then st.flags else withFlag st.flags StreamFlag.margin.bit }

/-- The stream after a readiness test at a time (R14). -/
def Stream.tested (st : Stream) (now : Nat) : Stream :=
  if st.ready then
    { st with state := .playing, gate := true, startTimer := none, stallTimer := none, overdue := false,
              drainTimer := some (now + 10) }
  else st

/-- The stream after a ceiling fall in JAMMED, where no step timer runs (R142, R146). -/
def Stream.fallTo (st : Stream) (c : Nat) : Stream :=
  if st.hasLadder then { st with ceiling := min st.ceiling c, probePending := false, stepTimer := none } else st

/-- The stream after a probe failure in JAMMED (R153). -/
def Stream.probeFailed (st : Stream) : Stream :=
  { st.fallTo st.current with flags := withFlag st.flags 7, probeLive := false }

/-- The stream whose PROBE record entry to JAMMED drops (R118). -/
def Stream.probeLost (st : Stream) (now : Nat) (r : Record) : Stream := ((st.returned r).measured.tested now).probeFailed

/-- The stream with its step timer stopped (R146). -/
def Stream.stopStep (st : Stream) : Stream := { st with stepTimer := none }

variable {s t : State} {n : Slot}

theorem State.windowChanged_stream (s : State) (n : Slot) :
    (s.windowChanged n).stream n = (s.stream n).measured.tested s.now := by
  have now := (s.reevaluate_blocks n).now
  have measured : (s.reevaluate n).stream n = (s.stream n).measured := s.reevaluate_stream n
  unfold State.windowChanged State.readinessTest Stream.tested
  rw [← measured]
  split
  · rw [State.enterPlaying_stream, now]
  · rfl

theorem State.dropToWaiting_stream (s : State) (r : Record) (d : DropReason) :
    (s.dropToWaiting r d).stream r.slot = ((s.stream r.slot).returned r).measured.tested s.now := by
  have returned : ((s.dropRecord r d).returnEntry r.slot r.segment).stream r.slot = (s.stream r.slot).returned r := by
    rw [State.returnEntry, State.stream_modStream_same, State.dropRecord_stream, Stream.returned]
    cases r.announcePending <;> simp
  have now : ((s.dropRecord r d).returnEntry r.slot r.segment).now = s.now := (s.dropRecord_shell r d).now
  rw [State.dropToWaiting, State.windowChanged_stream, returned, now]

theorem State.fall_stream_of_jammed (jammed : s.cls.zone = .jammed) (n : Slot) (c : Nat) (m : Slot) :
    (s.fall n c).stream m = if n = m then (s.stream m).fallTo c else s.stream m := by
  rw [State.fall, State.stream_modStream, Stream.fallTo]
  simp only [State.restartedStep, jammed, ne_eq, not_true_eq_false, and_false, if_false]

theorem Stream.fallTo_flags (st : Stream) (c : Nat) : (st.fallTo c).flags = st.flags := by
  unfold Stream.fallTo; split <;> rfl

theorem State.probeFailure_stream_of_jammed (jammed : s.cls.zone = .jammed) (n : Slot) :
    (s.probeFailure n).stream n = (s.stream n).probeFailed := by
  rw [State.probeFailure, State.stream_modStream_same, State.raise_stream, if_pos rfl,
    State.fall_stream_of_jammed jammed, if_pos rfl, Stream.fallTo_flags]
  rfl

/-- What the drop of a PROBE record in JAMMED makes of its stream. -/
theorem State.failProbe_stream_of_jammed (jammed : s.cls.zone = .jammed) (r : Record) (d : DropReason) :
    (s.failProbe r d).stream r.slot = (s.stream r.slot).probeLost s.now r := by
  have jammed' : (s.dropToWaiting r d).cls.zone = .jammed := by rw [(s.dropToWaiting_shell r d).cls, jammed]
  rw [State.failProbe, State.probeFailure_stream_of_jammed jammed', State.dropToWaiting_stream, Stream.probeLost]

theorem State.failProbe_elsewhere (s : State) (r : Record) (d : DropReason) : s.SameElsewhere r.slot (s.failProbe r d) :=
  (s.dropToWaiting_elsewhere r d).trans (State.probeFailure_elsewhere _ _)

/-- What the drops of PROBE records in JAMMED make of a stream: its own records count alone. -/
theorem State.failProbes_stream (d : DropReason) (n : Slot) (rs : List Record) : ∀ {s : State}, s.cls.zone = .jammed →
    (rs.foldl (fun s r => s.failProbe r d) s).stream n =
      (rs.filter fun r => r.slot == n).foldl (fun st r => st.probeLost s.now r) (s.stream n) := by
  induction rs with
  | nil => exact fun _ => rfl
  | cons r rs ih =>
    intro s jammed
    have shell := s.failProbe_shell r d
    rw [List.foldl_cons, ih (by rw [shell.cls, jammed]), shell.now]
    by_cases here : r.slot = n
    · subst here
      rw [List.filter_cons_of_pos (by simp), List.foldl_cons, State.failProbe_stream_of_jammed jammed]
    · rw [List.filter_cons_of_neg (by simp [here]), s.failProbe_elsewhere r d n (Ne.symm here)]

theorem State.failProbes_records (d : DropReason) (rs : List Record) : ∀ s : State,
    (rs.foldl (fun s r => s.failProbe r d) s).pool.records = s.pool.records.filter fun x => rs.all fun r => x.tag != r.tag := by
  induction rs with
  | nil => exact fun s => (List.filter_eq_self.mpr fun _ _ => rfl).symm
  | cons r rs ih =>
    intro s
    rw [List.foldl_cons, ih, State.failProbe_records, List.filter_filter]
    exact List.filter_congr fun x _ => by rw [List.all_cons, Bool.and_comm]

theorem State.failProbe_rest (s : State) (r : Record) (d : DropReason) :
    s.SameShell (s.failProbe r d) ∧ (s.failProbe r d).pool.nextTag = s.pool.nextTag ∧ (s.failProbe r d).arb = s.arb := by
  have blocks : (s.dropRecord r d).SameBlocks (s.failProbe r d) :=
    ((State.modStream_blocks _ r.slot _).trans (State.windowChanged_blocks _ _)).trans (State.probeFailure_blocks _ _)
  obtain ⟨tag, arb⟩ := s.dropRecord_nextTag r d
  exact ⟨s.failProbe_shell r d, by rw [blocks.pool, tag], blocks.arb.trans arb⟩

/-- The drops of PROBE records leave all but streams, records and queue (R118). -/
theorem State.failProbes_rest (d : DropReason) (rs : List Record) : ∀ s : State,
    s.SameShell (rs.foldl (fun s r => s.failProbe r d) s) ∧
      (rs.foldl (fun s r => s.failProbe r d) s).pool.nextTag = s.pool.nextTag ∧
      (rs.foldl (fun s r => s.failProbe r d) s).arb = s.arb := by
  induction rs with
  | nil => exact fun s => ⟨.refl s, rfl, rfl⟩
  | cons r rs ih =>
    intro s
    obtain ⟨shell, tag, arb⟩ := s.failProbe_rest r d
    obtain ⟨shell', tag', arb'⟩ := ih (s.failProbe r d)
    exact ⟨shell.trans shell', tag'.trans tag, arb'.trans arb⟩

/-! ### What becomes of one stream -/

theorem Stream.tested_stopStep (st : Stream) (now : Nat) : st.stopStep.tested now = (st.tested now).stopStep := by
  have ready : st.stopStep.ready = st.ready := rfl
  unfold Stream.tested
  rw [ready]
  split <;> rfl

theorem Stream.fallTo_stopStep (st : Stream) (c : Nat) : st.stopStep.fallTo c = (st.fallTo c).stopStep := by
  have ladder : st.stopStep.hasLadder = st.hasLadder := rfl
  unfold Stream.fallTo
  rw [ladder]
  split <;> rfl

/-- The step timer plays no part in the drop of a PROBE record. -/
theorem Stream.probeLost_stopStep (st : Stream) (now : Nat) (r : Record) :
    st.stopStep.probeLost now r = (st.probeLost now r).stopStep := by
  have measured : (st.stopStep.returned r).measured = ((st.returned r).measured).stopStep := rfl
  unfold Stream.probeLost
  rw [measured, Stream.tested_stopStep, Stream.probeFailed, Stream.fallTo_stopStep]
  rfl

theorem Stream.tested_keeps (st : Stream) (now : Nat) : (st.tested now).ceiling = st.ceiling ∧
    (st.tested now).current = st.current ∧ (st.tested now).ladder = st.ladder ∧ (st.tested now).window = st.window := by
  unfold Stream.tested; split <;> exact ⟨rfl, rfl, rfl, rfl⟩

theorem Stream.probeLost_window (st : Stream) (now : Nat) (r : Record) : (st.probeLost now r).window =
    st.window.map fun e => if e.segment = r.segment then { e with state := .waiting } else e := by
  have failed : ∀ st : Stream, st.probeFailed.window = st.window := fun st => by
    rw [Stream.probeFailed, Stream.fallTo]; split <;> rfl
  rw [Stream.probeLost, failed, (Stream.tested_keeps _ now).2.2.2]
  rfl

theorem Stream.probeLost_ceiling {st : Stream} (ladder : st.ladder ≠ []) (now : Nat) (r : Record) :
    (st.probeLost now r).ceiling = min st.ceiling st.current := by
  obtain ⟨ceiling, current, held, -⟩ := Stream.tested_keeps (st.returned r).measured now
  have holds : ((st.returned r).measured.tested now).hasLadder = true := by
    rw [Stream.hasLadder_iff, held]; exact ladder
  rw [Stream.probeLost, Stream.probeFailed, Stream.fallTo, if_pos holds, ceiling, current]
  rfl

theorem Stream.probeLost_live (st : Stream) (now : Nat) (r : Record) : (st.probeLost now r).probeLive = false := rfl

theorem Stream.probeLost_flag (st : Stream) (now : Nat) (r : Record) : (st.probeLost now r).flags.getLsbD 7 = true := by
  rw [Stream.probeLost, Stream.probeFailed]
  simp [withFlag]

end Sys2Proof.Machine
end

section
namespace Sys2Proof.Machine

variable {s t u : State} {n : Slot}

/-! ### The report that rises to JAMMED (R101, R110, R111, R115) -/

theorem levelAt_eq_jammed_iff (th : Thresholds) (v : Nat) : levelAt th v = .jammed ↔ th.jammed ≤ v := by
  unfold levelAt; split
  · simp_all
  · split
    · simp_all
    · split <;> simp_all

theorem Zone.higher_jammed_left (z : Zone) : Zone.higher .jammed z = .jammed := by cases z <;> rfl

theorem Zone.higher_jammed_right (z : Zone) : Zone.higher z .jammed = .jammed := by cases z <;> rfl

theorem Classifier.rawLevel_eq_jammed {c : Classifier} {retry airtime : Nat}
    (h : c.retry.jammed ≤ retry ∨ c.airtime.jammed ≤ airtime) : c.rawLevel retry airtime = .jammed := by
  unfold Classifier.rawLevel
  rcases h with retries | air
  · rw [(levelAt_eq_jammed_iff _ _).mpr retries, Zone.higher_jammed_left]
  · rw [(levelAt_eq_jammed_iff _ _).mpr air, Zone.higher_jammed_right]

theorem State.raiseDeviceIf_eq (s : State) (c : Bool) (f : DeviceFlag) : ∃ q, s.raiseDeviceIf c f =
    { s with dev := { s.dev with flags := if c then withFlag s.dev.flags f.bit else s.dev.flags },
             tx := { s.tx with queue := q } } := by
  cases c with
  | true => exact ⟨_, s.raiseDevice_eq f⟩
  | false => exact ⟨s.tx.queue, rfl⟩

/-- After the trim, the raw level and the zone JAMMED have been taken, before any ceiling moves (R115). -/
def State.jamRisen (s : State) (rtt : Nat) : State :=
  { s.sagStep rtt with cls := { (s.sagStep rtt).cls with raw := .jammed, dwellTimer := none } }.toZone .jammed

/-- The ceilings clamped to their floors and the pending probes cancelled (R118). -/
def State.clampAll (s : State) : State :=
  (s.forSlots fun n s => s.fall n (s.floor n)).forSlots fun n s => s.modStream n fun st => { st with probePending := false }

/-- The ceilings fallen and clamped (R117, R118). -/
def State.fallenAndClamped (s : State) (was : Zone) : State :=
  State.clampAll (if was.code < Zone.crowded.code then s.crowdedFall else s)

/-- The choice of a drop order counted (log entry 5). -/
def State.choiceTaken (s : State) : State := { s with choices := s.choices + 1 }

theorem State.enterJammed_eq (s : State) :
    s.enterJammed = s.clampAll.probesToDrop.foldl (fun s r => s.failProbe r .zone) s.clampAll.choiceTaken := rfl

/-- A report into JAMMED: the rise, the clamp, the drops in some order, then the step timers and U (R115). -/
theorem State.linkAct_of_jammed {r : LinkReq} (raw : s.cls.rawLevel r.retry r.airtime = .jammed)
    (zone : s.cls.zone ≠ .jammed) :
    ∃ rs : List Record, rs.Perm (((s.jamRisen r.rtt).fallenAndClamped s.cls.zone).pool.records.filter fun r => !r.isNormal) ∧
      s.linkAct r = ((rs.foldl (fun s r => s.failProbe r .zone)
        ((s.jamRisen r.rtt).fallenAndClamped s.cls.zone).choiceTaken).zoneTold s.cls.zone).linkUsable s := by
  obtain ⟨q, sag⟩ := State.raiseDeviceIf_eq { s with est := { s.est with sagTrim := s.est.trimAfter r.rtt } }
    (decide (s.est.sagTrim < 16) != decide (s.est.trimAfter r.rtt < 16)) .sag
  have cls : (s.sagStep r.rtt).cls = s.cls := by
    change (State.raiseDeviceIf _ _ _).cls = _
    rw [sag]
  have below : s.cls.zone.code < Zone.jammed.code := by
    cases h : s.cls.zone with
    | jammed => exact absurd h zone
    | clear | busy | crowded => decide
  have classified : (s.sagStep r.rtt).classify .jammed =
      State.enterJammed (if s.cls.zone.code < Zone.crowded.code then (s.jamRisen r.rtt).crowdedFall
        else s.jamRisen r.rtt) := by
    unfold State.classify State.zoneRise
    dsimp only
    rw [cls, if_pos below, if_pos rfl]
    simp only [State.jamRisen, cls, show Zone.crowded.code ≤ Zone.jammed.code from by decide, and_true]
  refine ⟨((s.jamRisen r.rtt).fallenAndClamped s.cls.zone).probesToDrop, State.probesToDrop_perm _, ?_⟩
  rw [State.linkAct, raw, classified, State.enterJammed_eq]
  rfl

/-- All but the queue after the rise. -/
theorem State.jamRisen_eq (zone : s.cls.zone ≠ .jammed) (rtt : Nat) : ∃ q, s.jamRisen rtt =
    { s with
      est := { s.est with sagTrim := s.est.trimAfter rtt },
      cls := { s.cls with raw := .jammed, zone := .jammed, dwellTimer := none },
      dev := { s.dev with flags := withFlag (if s.est.sagTrim < 16 ↔ s.est.trimAfter rtt < 16 then s.dev.flags
        else withFlag s.dev.flags 1) 0 },
      tx := { s.tx with queue := q } } := by
  obtain ⟨q, sag⟩ := State.raiseDeviceIf_eq { s with est := { s.est with sagTrim := s.est.trimAfter rtt } }
    (decide (s.est.sagTrim < 16) != decide (s.est.trimAfter rtt < 16)) .sag
  have step : s.sagStep rtt = _ := sag
  have moved : (s.cls.zone != Zone.jammed) = true := bne_iff_ne.mpr zone
  have flags : (if (decide (s.est.sagTrim < 16) != decide (s.est.trimAfter rtt < 16)) = true then
      withFlag s.dev.flags DeviceFlag.sag.bit else s.dev.flags) =
      if s.est.sagTrim < 16 ↔ s.est.trimAfter rtt < 16 then s.dev.flags else withFlag s.dev.flags 1 := by
    by_cases a : s.est.sagTrim < 16 <;> by_cases b : s.est.trimAfter rtt < 16 <;> simp [a, b, DeviceFlag.bit]
  unfold State.jamRisen State.toZone
  rw [step]
  dsimp only
  obtain ⟨q', zoned⟩ := State.raiseDeviceIf_eq _ _ _
  rw [zoned]
  refine ⟨q', ?_⟩
  simp only [moved, if_true, flags]
  rfl

end Sys2Proof.Machine
end

section
namespace Sys2Proof.Machine

variable {s t u : State} {n : Slot}

/-! ### Ceilings under a rise to JAMMED (R117, R118) -/

/-- `State.forSlots_stream` for an act that behaves so under what it keeps. -/
theorem State.forSlots_stream_of {P : State → Prop} (act : Slot → State → State) (g : Slot → Stream → Stream)
    (keeps : ∀ n s, P s → P (act n s))
    (h : ∀ n s m, P s → (act n s).stream m = if n = m then g n (s.stream m) else s.stream m) (holds : P s) (m : Slot) :
    (s.forSlots act).stream m = g m (s.stream m) := by
  have p0 := keeps 0 s holds
  have p1 := keeps 1 _ p0
  have p2 := keeps 2 _ p1
  simp only [State.forSlots, slots, List.foldl_cons, List.foldl_nil]
  rw [h 3 _ m p2, h 2 _ m p1, h 1 _ m p0, h 0 s m holds]
  fin_cases m <;> simp

/-- The floor that a protect threshold gives a configuration (R118). -/
def floorUnder (protect : Option Nat) (c : SlotConfig) : Nat := if isProtected protect c.priority then c.guardRung else 0

/-- The stream as a rise from `was` to JAMMED leaves its ceiling and its pending probe (R117, R118). -/
def Stream.clampedFrom (st : Stream) (was : Zone) (protect : Option Nat) : Stream :=
  { (if was.code < Zone.crowded.code then st.fallTo (st.ceiling - 1) else st).fallTo (floorUnder protect st.cfg) with
    probePending := false }

theorem State.crowdedFall_blocks (s : State) : s.SameBlocks s.crowdedFall :=
  State.forSlots_blocks (fun n s => State.fall_blocks s n _) s

theorem State.clampAll_blocks (s : State) : s.SameBlocks s.clampAll :=
  (State.forSlots_blocks (fun n s => State.fall_blocks s n _) s).trans
    (State.forSlots_blocks (fun n s => State.modStream_blocks s n _) _)

theorem State.fallenAndClamped_blocks (s : State) (was : Zone) : s.SameBlocks (s.fallenAndClamped was) := by
  unfold State.fallenAndClamped
  split
  · exact s.crowdedFall_blocks.trans (State.clampAll_blocks _)
  · exact s.clampAll_blocks

theorem State.crowdedFall_tx (s : State) : s.crowdedFall.tx = s.tx := State.forSlots_keeps State.tx _ (fun _ _ => rfl) s

theorem State.clampAll_tx (s : State) : s.clampAll.tx = s.tx :=
  (State.forSlots_keeps State.tx (fun n s => s.modStream n fun st => { st with probePending := false })
    (fun _ _ => rfl) _).trans
    (State.forSlots_keeps State.tx (fun n s => s.fall n (s.floor n)) (fun _ _ => rfl) s)

theorem State.fallenAndClamped_tx (s : State) (was : Zone) : (s.fallenAndClamped was).tx = s.tx := by
  unfold State.fallenAndClamped
  split
  · rw [State.clampAll_tx, State.crowdedFall_tx]
  · exact s.clampAll_tx

theorem Stream.fallTo_cfg (st : Stream) (c : Nat) : (st.fallTo c).cfg = st.cfg := by
  unfold Stream.fallTo; split <;> rfl

theorem State.crowdedFall_stream (jammed : s.cls.zone = .jammed) (n : Slot) :
    s.crowdedFall.stream n = (s.stream n).fallTo ((s.stream n).ceiling - 1) := by
  refine State.forSlots_stream_of (P := fun s => s.cls.zone = .jammed) (fun n s => s.fall n ((s.stream n).ceiling - 1)) (fun _ st => st.fallTo (st.ceiling - 1))
    (fun _ _ h => h) (fun m u k h => ?_) jammed n
  rw [State.fall_stream_of_jammed h]
  split
  · next same => rw [same]
  · rfl

theorem State.clampAll_stream (jammed : s.cls.zone = .jammed) (n : Slot) :
    s.clampAll.stream n =
      { (s.stream n).fallTo (floorUnder s.sharing.protect (s.stream n).cfg) with probePending := false } := by
  have floors : (s.forSlots fun n s => s.fall n (s.floor n)).stream n =
      (s.stream n).fallTo (floorUnder s.sharing.protect (s.stream n).cfg) := by
    refine State.forSlots_stream_of (P := fun u => u.cls.zone = .jammed ∧ u.sharing = s.sharing)
      (fun n s => s.fall n (s.floor n))
      (fun _ st => st.fallTo (floorUnder s.sharing.protect st.cfg)) (fun _ _ h => h) (fun m u k h => ?_) ⟨jammed, rfl⟩ n
    rw [State.fall_stream_of_jammed h.1]
    split
    · next same => rw [same, State.floor, h.2]; rfl
    · rfl
  rw [State.clampAll, State.forSlots_stream _ (fun _ st => { st with probePending := false })
    (fun m u k => by rw [State.stream_modStream]), floors]

theorem State.fallenAndClamped_stream (jammed : s.cls.zone = .jammed) (was : Zone) (n : Slot) :
    (s.fallenAndClamped was).stream n = (s.stream n).clampedFrom was s.sharing.protect := by
  unfold State.fallenAndClamped Stream.clampedFrom
  split
  · rw [State.clampAll_stream (by rw [s.crowdedFall_blocks.cls, jammed]), State.crowdedFall_stream jammed,
      Stream.fallTo_cfg, s.crowdedFall_blocks.sharing]
  · rw [State.clampAll_stream jammed]

theorem Stream.clampedFrom_flags (st : Stream) (was : Zone) (protect : Option Nat) :
    (st.clampedFrom was protect).flags = st.flags ∧ (st.clampedFrom was protect).mask = st.mask := by
  have fall : ∀ (st : Stream) c, (st.fallTo c).flags = st.flags ∧ (st.fallTo c).mask = st.mask := fun st c => by
    unfold Stream.fallTo; split <;> exact ⟨rfl, rfl⟩
  unfold Stream.clampedFrom
  dsimp only
  rw [(fall _ _).1, (fall _ _).2]
  split
  · exact fall _ _
  · exact ⟨rfl, rfl⟩

/-- The ceiling falls by one on the way through CROWDED, then to the floor (R117, R118). -/
theorem Stream.clampedFrom_stopStep (st : Stream) {was : Zone} (zone : was ≠ .jammed) (protect : Option Nat) :
    (st.clampedFrom was protect).stopStep = { st with
      ceiling := if st.ladder = [] then st.ceiling
        else if was = .crowded then min st.ceiling (floorUnder protect st.cfg)
        else min (st.ceiling - 1) (floorUnder protect st.cfg),
      probePending := false, stepTimer := none } := by
  by_cases ladder : st.ladder = []
  · have none : st.hasLadder = false := by simp [Stream.hasLadder, ladder]
    rw [if_pos ladder]
    simp [Stream.clampedFrom, Stream.fallTo, none, Stream.stopStep]
  · have held : ∀ st' : Stream, st'.ladder = st.ladder → st'.hasLadder = true := fun st' same =>
      (Stream.hasLadder_iff st').mpr (same ▸ ladder)
    rw [if_neg ladder]
    unfold Stream.clampedFrom Stream.fallTo
    cases was with
    | jammed => exact absurd rfl zone
    | crowded => simp [held st rfl, Zone.code, Stream.stopStep]
    | clear => simp [held, Zone.code, Stream.stopStep]
    | busy => simp [held, Zone.code, Stream.stopStep]

/-! ### The step timers and the shares at the end (R105, R146) -/

/-- Every step timer stopped (R146). -/
def State.stopSteps (s : State) : State := s.forSlots fun n s => s.modStream n fun st => { st with stepTimer := none }

theorem State.stopSteps_blocks (s : State) : s.SameBlocks s.stopSteps :=
  State.forSlots_blocks (fun n s => State.modStream_blocks s n _) s

theorem State.stopSteps_tx (s : State) : s.stopSteps.tx = s.tx := State.forSlots_keeps State.tx _ (fun _ _ => rfl) s

theorem State.stopSteps_stream (s : State) (n : Slot) : s.stopSteps.stream n = (s.stream n).stopStep :=
  State.forSlots_stream _ (fun _ st => st.stopStep) (fun m u k => by rw [State.stream_modStream]; rfl) s n

theorem State.linkEnd_of_jammed (jammed : t.cls.zone = .jammed) (was : s.cls.zone ≠ .jammed) :
    (t.zoneTold s.cls.zone).linkUsable s = t.stopSteps.recomputeUsable := by
  have told : t.zoneTold s.cls.zone = t.stopSteps := by
    rw [State.zoneTold, if_neg (by rw [jammed]; exact was.symm), if_pos jammed]; rfl
  rw [told, State.linkUsable, if_neg]
  rw [t.stopSteps_blocks.cls, jammed]
  exact fun both => was both.2.symm

theorem State.recomputeUsable_tx (s : State) : s.recomputeUsable.tx = s.tx :=
  State.forSlots_keeps State.tx _ (fun _ _ => rfl) _

theorem State.recomputeUsable_blocks (s : State) :
    { s with est := { s.est with usable := s.usableNow } }.SameBlocks s.recomputeUsable := State.reallocate_blocks _

/-- The shares are those of U as recomputed (R105, R124). -/
theorem State.recomputeUsable_stream (s : State) (n : Slot) : s.recomputeUsable.stream n = { s.stream n with
    share := shareIn (s.recomputeUsable.allocation s.recomputeUsable.est.usable) n } := by
  rw [s.recomputeUsable_blocks.est]
  unfold State.recomputeUsable
  rw [State.reallocate_allocation, State.reallocate_stream]
  rfl

/-! ### Blocks that stay -/

/-- What stays the same, as one equation. -/
theorem State.SameBlocks.eq (h : s.SameBlocks t) :
    t = { s with tx := { s.tx with queue := t.tx.queue }, streams := t.streams } := by
  obtain ⟨⟨phase, now, micros, rx, sending, est, cls, sharing, limit, dev, choices, pending⟩, pool, arb⟩ := h
  cases s with
  | mk _ _ _ _ tx =>
    cases tx
    cases t with
    | mk _ _ _ _ tx' =>
      cases tx'
      dsimp only at *
      subst phase now micros rx sending est cls sharing dev choices pending pool arb
      rfl

theorem State.SameBlocks.withEst (h : s.SameBlocks t) (e : Estimator) :
    { s with est := e }.SameBlocks { t with est := e } := { h with est := rfl }

theorem State.SameBlocks.choiceTaken (h : s.SameBlocks t) : s.choiceTaken.SameBlocks t.choiceTaken :=
  { h with choices := congrArg (· + 1) h.choices }

theorem State.SameShell.withPool (h : s.SameShell t) (arb : t.arb = s.arb) : { s with pool := t.pool }.SameBlocks t :=
  { h with pool := rfl, arb := arb }

end Sys2Proof.Machine
end

section
namespace Sys2Proof.Machine

variable {s t u : State} {n : Slot}

/-! ### LINK into JAMMED, the parts together -/

theorem State.choiceTaken_tx (s : State) : s.choiceTaken.tx = s.tx := rfl

theorem State.choiceTaken_dev (s : State) : s.choiceTaken.dev = s.dev := rfl

theorem State.choiceTaken_stream (s : State) (n : Slot) : s.choiceTaken.stream n = s.stream n := rfl

theorem State.choiceTaken_pool (s : State) : s.choiceTaken.pool = s.pool := rfl

/-- The live PROBE records. -/
def State.probes (s : State) : List Record := s.pool.records.filter fun r => !r.isNormal

theorem State.probes_eq (s : State) : s.probes = s.pool.records.filter fun x => x.kind = .probe :=
  List.filter_congr fun x _ => by cases h : x.kind <;> simp [Record.isNormal, h]

/-- A stream has one PROBE record at most (R49). -/
theorem State.poolSound.probes_slot (h : s.poolSound) (n : Slot) : (s.probes.filter fun r => r.slot == n).length ≤ 1 := by
  have one := (h.2.2.2.2.2.2.2 n).2
  rwa [State.probes, List.filter_filter]

theorem State.QueueAfter.jamRisen (ps : List Record) (s : State) (rtt : Nat) :
    State.QueueAfter ps [] s (s.jamRisen rtt) := by
  have trimmed : State.QueueAfter ps [] s { s with est := { s.est with sagTrim := s.est.trimAfter rtt } } :=
    .of_eq ps rfl rfl
  have sagged : State.QueueAfter ps [] s (s.sagStep rtt) := trimmed.trans (.raiseDeviceIf ps _ _ .sag)
  have stored : State.QueueAfter ps [] (s.sagStep rtt) { s.sagStep rtt with
    cls := { (s.sagStep rtt).cls with raw := .jammed, dwellTimer := none, zone := .jammed } } := .of_eq ps rfl rfl
  exact (sagged.trans stored).trans (.raiseDeviceIf ps _ _ .zone)

theorem State.jamRisen_gates (s : State) (rtt : Nat) (n : Slot) : (s.jamRisen rtt).gates n = s.gates n :=
  (State.raiseDeviceIf_gates _ _ .zone n).trans (State.raiseDeviceIf_gates _ _ .sag n)

theorem State.QueueAfter.fallenAndClamped (ps : List Record) (jammed : s.cls.zone = .jammed) (was : Zone) :
    State.QueueAfter ps [] s (s.fallenAndClamped was).choiceTaken :=
  .of_eq ps (by rw [State.choiceTaken_tx, State.fallenAndClamped_tx])
    (State.summary_congr (by rw [State.choiceTaken_dev, (s.fallenAndClamped_blocks was).dev]) fun m => by
      rw [State.choiceTaken_stream, State.fallenAndClamped_stream jammed]
      exact Stream.clampedFrom_flags _ _ _)

theorem State.QueueAfter.linkEnd (ps : List Record) (s : State) :
    State.QueueAfter ps [] s s.stopSteps.recomputeUsable :=
  .of_eq ps (by rw [State.recomputeUsable_tx, State.stopSteps_tx])
    (State.summary_congr ((State.recomputeUsable_blocks _).dev.trans s.stopSteps_blocks.dev) fun m => by
      rw [State.recomputeUsable_stream, State.stopSteps_stream]
      exact ⟨rfl, rfl⟩)

/-- The estimator, classifier, device flags and choices of a report into JAMMED (R101, R111, R176). -/
def State.jamReported (s : State) (rtt : Nat) : State :=
  { s with
    est := { s.est with sagTrim := s.est.trimAfter rtt },
    cls := { s.cls with raw := .jammed, zone := .jammed, dwellTimer := none },
    dev := { s.dev with flags := withFlag (if s.est.sagTrim < 16 ↔ s.est.trimAfter rtt < 16 then s.dev.flags
      else withFlag s.dev.flags 1) 0 },
    choices := s.choices + 1 }

/-- The state in which entry to JAMMED takes its drops (R118). -/
structure State.JamEntered (s : State) (rtt : Nat) (e : State) : Prop where
  rest : (s.jamReported rtt).SameBlocks e
  stream : ∀ n, e.stream n = (s.stream n).clampedFrom s.cls.zone s.sharing.protect
  queue : State.QueueAfter s.probes [] s e
  gates : ∀ n, e.gates n = s.gates n

theorem State.linkAct_entered {r : LinkReq} (raw : s.cls.rawLevel r.retry r.airtime = .jammed)
    (zone : s.cls.zone ≠ .jammed) :
    ∃ (rs : List Record) (e : State), rs.Perm s.probes ∧ s.JamEntered r.rtt e ∧
      s.linkAct r = (rs.foldl (fun s r => s.failProbe r .zone) e).stopSteps.recomputeUsable := by
  obtain ⟨rs, order, act⟩ := State.linkAct_of_jammed raw zone
  obtain ⟨q, risen⟩ := State.jamRisen_eq zone r.rtt
  have clamped := (s.jamRisen r.rtt).fallenAndClamped_blocks s.cls.zone
  have jammed : (s.jamRisen r.rtt).cls.zone = .jammed := by rw [risen]
  have pool : ((s.jamRisen r.rtt).fallenAndClamped s.cls.zone).pool = s.pool := by rw [clamped.pool, risen]
  have reported : (s.jamReported r.rtt).SameBlocks (s.jamRisen r.rtt).choiceTaken := by
    rw [risen]
    exact { phase := rfl, now := rfl, micros := rfl, rx := rfl, sending := rfl, est := rfl, cls := rfl, sharing := rfl,
            slotLimit := rfl, dev := rfl, choices := rfl, pending := rfl, pool := rfl, arb := rfl }
  have entered : s.JamEntered r.rtt ((s.jamRisen r.rtt).fallenAndClamped s.cls.zone).choiceTaken :=
    { rest := reported.trans clamped.choiceTaken
      stream := fun m => by
        rw [State.choiceTaken_stream, State.fallenAndClamped_stream jammed, risen]; rfl
      queue := (State.QueueAfter.jamRisen _ s r.rtt).trans (.fallenAndClamped _ jammed _)
      gates := fun m => (State.gates_of_queue (by rw [State.choiceTaken_tx, State.fallenAndClamped_tx]) m).trans
        (s.jamRisen_gates _ m) }
  rw [pool] at order
  refine ⟨rs, _, order, entered, ?_⟩
  rw [act, State.linkEnd_of_jammed _ zone]
  rw [(State.failProbes_rest .zone rs _).1.cls, entered.rest.cls]
  rfl

/-- The records that stay are those of the other kinds, since tags name records (R47). -/
theorem State.poolSound.filter_probes (h : s.poolSound) {rs : List Record} (order : rs.Perm s.probes) :
    (s.pool.records.filter fun x => rs.all fun r => x.tag != r.tag) = s.pool.records.filter Record.isNormal := by
  refine List.filter_congr fun x hx => ?_
  rw [Bool.eq_iff_iff, List.all_eq_true]
  simp only [bne_iff_ne]
  constructor
  · intro all
    by_contra probe
    have listed : x ∈ s.probes := List.mem_filter.mpr ⟨hx, by simpa using probe⟩
    exact all x (order.symm.subset listed) rfl
  · intro normal r hr same
    obtain ⟨mem, probe⟩ := List.mem_filter.mp (order.subset hr)
    rw [← h.eq_of_tag hx mem same, normal] at probe
    cases probe

/-- What a report into JAMMED comes to (R101, R104, R111, R117, R118). -/
structure State.Jammed (s : State) (rtt : Nat) (p : State) : Prop where
  rest : { s.jamReported rtt with
    est := { (s.jamReported rtt).est with
      usable := min (s.est.estimate * 50 / 100 * s.est.trimAfter rtt / 16) s.sharing.linkCeiling },
    pool := { s.pool with records := s.pool.records.filter Record.isNormal } }.SameBlocks p
  queue : State.QueueAfter s.probes s.probes s p
  gates : ∀ n, p.gates n ≤ s.gates n + 1
  free : ∀ n, (∀ x ∈ s.probes, x.slot ≠ n) → p.stream n =
    { ((s.stream n).clampedFrom s.cls.zone s.sharing.protect).stopStep with
      share := shareIn (p.allocation p.est.usable) n }
  lost : ∀ x ∈ s.probes, p.stream x.slot =
    { (((s.stream x.slot).clampedFrom s.cls.zone s.sharing.protect).stopStep).probeLost s.now x with
      share := shareIn (p.allocation p.est.usable) x.slot }

theorem State.poolSound.probes_of_slot (h : s.poolSound) {rs : List Record} (order : rs.Perm s.probes) {x : Record}
    (mem : x ∈ s.probes) : (rs.filter fun r => r.slot == x.slot) = [x] := by
  have filtered := order.filter fun r => r.slot == x.slot
  have one : (rs.filter fun r => r.slot == x.slot).length ≤ 1 := filtered.length_eq.trans_le (h.probes_slot x.slot)
  have listed : x ∈ rs.filter fun r => r.slot == x.slot := List.mem_filter.mpr ⟨order.symm.subset mem, by simp⟩
  obtain ⟨y, only⟩ := List.length_eq_one_iff.mp (le_antisymm one (List.length_pos_of_mem listed))
  rw [only] at listed ⊢
  rw [List.mem_singleton.mp listed]

theorem State.linkAct_jammed (sound : s.poolSound) {r : LinkReq} (raw : s.cls.rawLevel r.retry r.airtime = .jammed)
    (zone : s.cls.zone ≠ .jammed) : s.Jammed r.rtt (s.linkAct r) := by
  obtain ⟨rs, e, order, entered, act⟩ := State.linkAct_entered raw zone
  have jammed : e.cls.zone = .jammed := by rw [entered.rest.cls]; rfl
  have entered_pool : e.pool = s.pool := entered.rest.pool
  obtain ⟨shell, nextTag, arb⟩ := State.failProbes_rest .zone rs e
  have records := State.failProbes_records .zone rs e
  have streams := fun n => State.failProbes_stream .zone n rs jammed
  have dropped := State.QueueAfter.failProbes rs e fun x hx => order.subset hx
  have drop_gates := fun n => State.failProbes_gates .zone n rs e
  rw [act]
  generalize rs.foldl (fun s r => s.failProbe r .zone) e = f at shell nextTag arb records streams dropped drop_gates
  have stream : ∀ n, f.stopSteps.recomputeUsable.stream n = { (f.stream n).stopStep with
      share := shareIn (f.stopSteps.recomputeUsable.allocation f.stopSteps.recomputeUsable.est.usable) n } := fun n => by
    rw [State.recomputeUsable_stream, State.stopSteps_stream]
  refine ⟨?_, ?_, fun n => ?_, fun n none => ?_, fun x hx => ?_⟩
  · have before : (s.jamReported r.rtt).SameShell f := entered.rest.toSameShell.trans shell
    have kept := (before.withPool (arb.trans entered.rest.arb)).trans f.stopSteps_blocks
    have pool : f.pool = { s.pool with records := s.pool.records.filter Record.isNormal } := by
      rw [entered_pool] at nextTag records
      rw [← sound.filter_probes order, ← records]
      exact congrArg (Pool.mk f.pool.records) nextTag
    have usable : f.stopSteps.usableNow =
        min (s.est.estimate * 50 / 100 * s.est.trimAfter r.rtt / 16) s.sharing.linkCeiling := by
      rw [State.usableNow, kept.est, kept.cls, kept.sharing]; rfl
    have whole := (kept.withEst { f.stopSteps.est with usable := f.stopSteps.usableNow }).trans
      (State.recomputeUsable_blocks _)
    rw [usable, kept.est, pool] at whole
    exact whole
  · exact ((entered.queue.trans dropped).trans (.linkEnd _ f)).perm (by simpa using order)
  · have one := (order.filter fun r => r.slot == n).length_eq.trans_le (sound.probes_slot n)
    have same : f.stopSteps.recomputeUsable.gates n = f.gates n :=
      State.gates_of_queue (by rw [State.recomputeUsable_tx, State.stopSteps_tx]) n
    have bound := drop_gates n
    rw [entered.gates] at bound
    omega
  · have absent : (rs.filter fun r => r.slot == n) = [] := List.filter_eq_nil_iff.mpr fun x hx => by
      simpa using none x (order.subset hx)
    rw [stream, streams, absent, List.foldl_nil, entered.stream]
  · rw [stream, streams, sound.probes_of_slot order hx, List.foldl_cons, List.foldl_nil, entered.stream,
      ← Stream.probeLost_stopStep, entered.rest.now]
    rfl

end Sys2Proof.Machine
end

section
namespace Sys2Proof.Machine

variable {s p : State} {rtt : Nat}

theorem filter_isNormal (rs : List Record) : rs.filter Record.isNormal = rs.filter fun x => x.kind ≠ .probe :=
  List.filter_congr fun x _ => by cases h : x.kind <;> simp [Record.isNormal, h]

theorem noteFor_popFrame_left (s t : State) : noteFor s.popFrame t = noteFor s t :=
  noteFor_congr (State.summary_congr rfl fun _ => ⟨rfl, rfl⟩) rfl rfl

theorem noteFor_perm {s t : State} {added : List TxFrame} (h : added.Perm (noteFor s t)) : added = noteFor s t := by
  unfold noteFor at h ⊢
  split at h
  · next c => rw [if_pos c]; exact List.perm_singleton.mp h
  · next c => rw [if_neg c]; exact h.eq_nil

/-- What a stream without a PROBE record keeps, whatever the zone was (R118). -/
theorem State.Jammed.kept (h : s.Jammed rtt p) (zone : s.cls.zone ≠ .jammed) {n : Slot}
    (none : ∀ x ∈ s.probes, x.slot ≠ n) : (p.stream n).hold = (s.stream n).hold ∧
      (p.stream n).active = (s.stream n).active ∧ (p.stream n).flags = (s.stream n).flags ∧
      (p.stream n).mask = (s.stream n).mask := by
  rw [h.free n none, Stream.clampedFrom_stopStep _ zone]
  exact ⟨rfl, rfl, rfl, rfl⟩

/-- The records freed by entry to JAMMED are the event's one arbitration (R115, R118). -/
theorem State.Jammed.settle (h : s.Jammed rtt p) (zone : s.cls.zone ≠ .jammed) :
    p.settle s = if s.probes = [] then p else p.arbitrate := by
  have records : p.pool.records = s.pool.records.filter Record.isNormal := congrArg Pool.records h.rest.pool
  by_cases none : s.probes = []
  · have kept := fun n => h.kept zone (n := n) (by rw [none]; exact nofun)
    have all : s.pool.records.filter Record.isNormal = s.pool.records := List.filter_eq_self.mpr fun x hx => by
      by_contra probe
      have listed : x ∈ s.probes := List.mem_filter.mpr ⟨hx, by simpa using probe⟩
      rw [none] at listed
      cases listed
    obtain ⟨hold, active, -⟩ := kept 0
    rw [if_pos none, State.settle_eq 0 fun m _ => ⟨(kept m).1, (kept m).2.1⟩, if_neg]
    rw [records, all, hold, active]
    simp
  · rw [if_neg none]
    refine State.settle_of_freed ?_
    rw [records, List.length_filter_lt_length_iff_exists]
    obtain ⟨x, hx⟩ := List.exists_mem_of_ne_nil _ none
    obtain ⟨mem, probe⟩ := List.mem_filter.mp hx
    exact ⟨x, mem, by simpa using probe⟩

/-- Without a PROBE record the queue gains the NOTE for the device flags alone (R178). -/
theorem State.Jammed.queue_of_no_probe (h : s.Jammed rtt p) (zone : s.cls.zone ≠ .jammed) (none : s.probes = []) :
    p.tx.queue = s.tx.queue ++ noteFor s { s with dev := p.dev } := by
  obtain ⟨added, perm, queue⟩ := h.queue.queue
  rw [none] at perm queue
  have every : ∀ q : List TxFrame, q.filter (fun f => !gateAmong [] f) = q ∧
      q.filter (fun f => !withdrawnWith [] f && !gateAmong [] f) = q := fun q =>
    ⟨List.filter_eq_self.mpr fun _ _ => rfl, List.filter_eq_self.mpr fun _ _ => rfl⟩
  rw [(every _).1, (every _).2, noteFor_perm perm] at queue
  rw [queue]
  refine congrArg (s.tx.queue ++ ·) (noteFor_congr rfl (State.summary_congr rfl fun m => ?_) rfl)
  exact (h.kept zone (by rw [none]; exact nofun)).2.2

end Sys2Proof.Machine

open Sys2Proof Sys2Proof.Machine

/-- Settles O40: the report as `State.Jammed` has it, read off slot by slot. -/
theorem linkIntoJammedClampsAndDrops : Obligations.LinkIntoJammedClampsAndDrops := by
  intro s r sound one rtt retry airtime door zone level trim sagged probes cls dev withdrawn gateOfLost
  have raw : s.popFrame.cls.rawLevel r.retry r.airtime = .jammed := Classifier.rawLevel_eq_jammed level
  have sound' : s.popFrame.poolSound := sound
  have jammed := State.linkAct_jammed sound' raw zone
  have probes_eq : s.popFrame.probes = probes := s.probes_eq
  generalize acted : s.popFrame.linkAct r = p at jammed
  refine ⟨p, ?_, ?_, fun none => ?_, ?_, jammed.gates, fun n => ?_⟩
  · refine (State.next_request_of_ok (a := r) door (parseLink_linkBody one rtt retry airtime)).trans (congrArg _ ?_)
    rw [acted, jammed.settle zone, probes_eq]
    rfl
  · have whole := jammed.rest.eq
    rw [filter_isNormal] at whole
    exact whole
  · have queue := jammed.queue_of_no_probe zone (probes_eq.trans none)
    rw [queue, noteFor_popFrame_left, jammed.rest.dev]
    refine congrArg (s.tx.queue ++ ·) (noteFor_congr rfl (State.summary_congr rfl fun _ => ⟨rfl, rfl⟩) rfl)
  · obtain ⟨added, perm, queue⟩ := jammed.queue.queue
    rw [probes_eq] at perm queue
    rw [noteFor_popFrame_left] at perm
    exact ⟨added, perm, queue⟩
  · intro st floor fallen clamped
    have floor_eq : floor = floorUnder s.sharing.protect st.cfg := by
      unfold floorUnder isProtected
      cases threshold : s.sharing.protect with
      | none => simp [floor, threshold]
      | some k => simp [floor, threshold]
    have clamped_eq : ((s.popFrame.stream n).clampedFrom s.popFrame.cls.zone s.popFrame.sharing.protect).stopStep = clamped := by
      refine (Stream.clampedFrom_stopStep st zone s.sharing.protect).trans ?_
      rw [← floor_eq]
    refine ⟨fun none => ?_, fun x hx slot => ?_⟩
    · rw [jammed.free n (by rw [probes_eq]; exact none), clamped_eq]
    · subst slot
      have lost := jammed.lost x (by rw [probes_eq]; exact hx)
      rw [clamped_eq] at lost
      have formed : ((({ s with cls := cls }.setStream x.slot clamped).dropToWaiting x .zone).probeFailure x.slot).stream
          x.slot = clamped.probeLost s.now x := by
        have failed := State.failProbe_stream_of_jammed (s := { s with cls := cls }.setStream x.slot clamped) rfl x .zone
        rwa [State.stream_setStream_same] at failed
      rw [formed, lost]
      refine ⟨rfl, rfl, Stream.probeLost_flag clamped _ x, fun ladder => ?_, Stream.probeLost_window clamped _ x⟩
      have ceiling := Stream.probeLost_ceiling (st := clamped) ladder s.now x
      have fall : clamped.ceiling = fallen := if_neg ladder
      rw [fall] at ceiling
      exact ceiling
end

section
namespace Sys2Proof.Machine

/-! ## What a command can do to streams and records (O56, O57)

Windows, buffer queues and live records are held together by few operations. Every command is a chain of these, and of changes
that leave what holds them together alone, so that an invariant of them is proved act by act. -/

/-- What holds a stream's window, buffer queue and records together. -/
def Stream.bond (st : Stream) :
    PlayState × List WindowEntry × List BufferEntry × Option Nat × Bool × Bool × Bool :=
  (st.state, st.window, st.buffer, st.origin, st.finalKnown, st.probeLive, st.hold)

/-- From `a` to `b` nothing of that has changed but the playback state, and that to an active one. -/
structure Stream.Quiet (a b : Stream) : Prop where
  window : b.window = a.window
  buffer : b.buffer = a.buffer
  origin : b.origin = a.origin
  finalKnown : b.finalKnown = a.finalKnown
  probeLive : b.probeLive = a.probeLive
  hold : b.hold = a.hold
  state : b.state = a.state ∨ b.active = true

theorem Stream.Quiet.of_bond {a b : Stream} (h : b.bond = a.bond) : a.Quiet b := by
  simp only [Stream.bond, Prod.mk.injEq] at h
  obtain ⟨state, window, buffer, origin, finalKnown, probeLive, hold⟩ := h
  exact ⟨window, buffer, origin, finalKnown, probeLive, hold, .inl state⟩

theorem Stream.Quiet.refl (a : Stream) : a.Quiet a := .of_bond rfl

theorem Stream.active_congr {a b : Stream} (h : b.state = a.state) : b.active = a.active := by
  unfold Stream.active; rw [h]

theorem Stream.Quiet.active {a b : Stream} (h : a.Quiet b) (active : a.active = true) : b.active = true :=
  h.state.elim (fun same => (Stream.active_congr same).trans active) id

theorem Stream.Quiet.trans {a b c : Stream} (x : a.Quiet b) (y : b.Quiet c) : a.Quiet c where
  window := y.window.trans x.window
  buffer := y.buffer.trans x.buffer
  origin := y.origin.trans x.origin
  finalKnown := y.finalKnown.trans x.finalKnown
  probeLive := y.probeLive.trans x.probeLive
  hold := y.hold.trans x.hold
  state := y.state.elim (fun same => x.state.imp same.trans fun active => (Stream.active_congr same).trans active) .inr

/-- Pool and slot limit are as before, and every stream is but for quiet changes. -/
structure State.Quiet (s t : State) : Prop where
  pool : t.pool = s.pool
  slotLimit : t.arb.slotLimit = s.arb.slotLimit
  streams : ∀ m, (s.stream m).Quiet (t.stream m)

theorem State.Quiet.refl (s : State) : s.Quiet s := ⟨rfl, rfl, fun _ => .refl _⟩

theorem State.Quiet.trans {s t u : State} (x : s.Quiet t) (y : t.Quiet u) : s.Quiet u :=
  ⟨y.pool.trans x.pool, y.slotLimit.trans x.slotLimit, fun m => (x.streams m).trans (y.streams m)⟩

theorem State.Quiet.of_streams {s t : State} (pool : t.pool = s.pool) (limit : t.arb.slotLimit = s.arb.slotLimit)
    (h : ∀ m, t.stream m = s.stream m) : s.Quiet t :=
  ⟨pool, limit, fun m => h m ▸ .refl _⟩

theorem State.SameBlocks.quiet {s t : State} (b : s.SameBlocks t) (h : ∀ m, (s.stream m).Quiet (t.stream m)) : s.Quiet t :=
  ⟨b.pool, b.slotLimit, h⟩

variable (s : State) (n : Slot)

theorem State.modStream_quiet {f : Stream → Stream} (h : ∀ st : Stream, st.Quiet (f st)) : s.Quiet (s.modStream n f) :=
  (s.modStream_blocks n f).quiet fun m => by
    rw [State.stream_modStream]; split
    · exact h _
    · exact .refl _

theorem State.forSlots_quiet {act : Slot → State → State} (h : ∀ m u, State.Quiet u (act m u)) : s.Quiet (s.forSlots act) :=
  State.forSlots_rel (R := State.Quiet) (fun a b => a.trans b) h s

/-! ### The quiet operations -/

theorem State.setQueue_quiet (q : List TxFrame) : s.Quiet (s.setQueue q) := .of_streams rfl rfl fun _ => rfl

theorem State.pushTx_quiet (f : TxFrame) : s.Quiet (s.pushTx f) := s.setQueue_quiet _

theorem State.reply_quiet (k : Byte) (e : Status) (fs : List Byte) : s.Quiet (s.reply k e fs) := s.setQueue_quiet _

theorem State.reach_quiet (e : Nat) : s.Quiet (s.reach e) :=
  .of_streams (s.reach_pool e) (by rw [s.reach_arb e]) fun m => s.reach_stream m e

theorem State.withEst_quiet (e : Estimator) : s.Quiet { s with est := e } := .of_streams rfl rfl fun _ => rfl

theorem State.withCls_quiet (c : Classifier) : s.Quiet { s with cls := c } := .of_streams rfl rfl fun _ => rfl

theorem State.withDev_quiet (d : DeviceFlags) : s.Quiet { s with dev := d } := .of_streams rfl rfl fun _ => rfl

theorem State.noteIfTurned_quiet (b : State) : s.Quiet (s.noteIfTurned b) :=
  (s.noteIfTurned_blocks b).quiet fun m => (s.noteIfTurned_stream m b).symm ▸ .refl _

theorem State.raise_quiet (f : StreamFlag) : s.Quiet (s.raise n f) :=
  (s.raise_blocks n f).quiet fun m => by
    rw [State.raise_stream]; split
    · exact .of_bond rfl
    · exact .refl _

theorem State.raiseIf_quiet (c : Bool) (f : StreamFlag) : s.Quiet (s.raiseIf c n f) := by
  unfold State.raiseIf; split
  · exact s.raise_quiet n f
  · exact .refl s

theorem State.raiseDevice_quiet (f : DeviceFlag) : s.Quiet (s.raiseDevice f) := by
  unfold State.raiseDevice; split
  · exact .refl s
  · exact (s.withDev_quiet _).trans (State.noteIfTurned_quiet _ _)

theorem State.raiseDeviceIf_quiet (c : Bool) (f : DeviceFlag) : s.Quiet (s.raiseDeviceIf c f) := by
  unfold State.raiseDeviceIf; split
  · exact s.raiseDevice_quiet f
  · exact .refl s

theorem State.enterPlaying_quiet (r : GateReason) : s.Quiet (s.enterPlaying n r) :=
  (s.enterPlaying_blocks n r).quiet fun m => by
    by_cases same : m = n
    · subst same; rw [State.enterPlaying_stream]; exact ⟨rfl, rfl, rfl, rfl, rfl, rfl, .inr rfl⟩
    · rw [s.enterPlaying_elsewhere n r m same]; exact .refl _

theorem State.leavePlaying_quiet (r : GateReason) : s.Quiet (s.leavePlaying n r) :=
  (s.leavePlaying_blocks n r).quiet fun m => by
    by_cases same : m = n
    · subst same; rw [State.leavePlaying_stream]; split
      · exact .of_bond rfl
      · exact .refl _
    · rw [s.leavePlaying_elsewhere n r m same]; exact .refl _

theorem State.readinessTest_quiet : s.Quiet (s.readinessTest n) := by
  unfold State.readinessTest; split
  · exact s.enterPlaying_quiet n _
  · exact .refl s

theorem State.enterStarting_quiet : s.Quiet (s.enterStarting n) :=
  s.modStream_quiet n fun _ => by exact ⟨rfl, rfl, rfl, rfl, rfl, rfl, .inr rfl⟩

theorem State.enterRebuffering_quiet : s.Quiet (s.enterRebuffering n) :=
  ((s.leavePlaying_quiet n _).trans
    (State.modStream_quiet _ n fun _ => by exact ⟨rfl, rfl, rfl, rfl, rfl, rfl, .inr rfl⟩)).trans (State.raise_quiet _ n _)

theorem State.fall_quiet (named : Nat) : s.Quiet (s.fall n named) := by
  refine s.modStream_quiet n fun _ => ?_
  split
  · exact .of_bond rfl
  · exact .refl _

theorem State.dryTest_quiet (n : Slot) (s : State) : s.Quiet (s.dryTest n) := by
  unfold State.dryTest; split
  · exact (s.raise_quiet n _).trans (State.modStream_quiet _ n fun _ => .of_bond (by rfl))
  · exact .refl s

theorem State.reallocate_quiet : s.Quiet s.reallocate :=
  s.forSlots_quiet fun m u => u.modStream_quiet m fun _ => .of_bond (by rfl)

theorem State.reallocateIf_quiet (c : Bool) : s.Quiet (s.reallocateIf c) := by
  unfold State.reallocateIf; split
  · exact s.reallocate_quiet
  · exact .refl s

theorem State.recomputeUsable_quiet : s.Quiet s.recomputeUsable :=
  (s.withEst_quiet _).trans (State.reallocate_quiet _)

theorem State.pauseAct_quiet : s.Quiet (s.pauseAct n) := by
  unfold State.pauseAct; split
  · exact .refl s
  · exact (s.leavePlaying_quiet n _).trans
      (State.modStream_quiet _ n fun _ => by exact ⟨rfl, rfl, rfl, rfl, rfl, rfl, .inr rfl⟩)

theorem State.toZone_quiet (z : Zone) : s.Quiet (s.toZone z) :=
  (s.withCls_quiet { s.cls with zone := z }).trans (State.raiseDeviceIf_quiet _ _ _)

theorem State.crowdedFall_quiet : s.Quiet s.crowdedFall := s.forSlots_quiet fun m u => u.fall_quiet m _

theorem State.clampAll_quiet : s.Quiet s.clampAll :=
  (s.forSlots_quiet fun m u => u.fall_quiet m _).trans
    (State.forSlots_quiet _ fun m u => u.modStream_quiet m fun _ => .of_bond (by rfl))

theorem State.zoneTold_quiet (was : Zone) : s.Quiet (s.zoneTold was) := by
  unfold State.zoneTold; split
  · exact .refl s
  · split
    · exact s.forSlots_quiet fun m u => u.modStream_quiet m fun _ => .of_bond (by rfl)
    · split
      · exact s.forSlots_quiet fun m u => u.modStream_quiet m fun _ => .of_bond (by rfl)
      · exact .refl s

theorem State.linkUsable_quiet (b : State) : s.Quiet (s.linkUsable b) := by
  unfold State.linkUsable; split
  · exact .refl s
  · exact s.recomputeUsable_quiet

theorem State.sagStep_quiet (rtt : Nat) : s.Quiet (s.sagStep rtt) :=
  (s.withEst_quiet { s.est with sagTrim := s.est.trimAfter rtt }).trans (State.raiseDeviceIf_quiet _ _ _)

theorem State.dwellAct_quiet : s.Quiet s.dwellAct :=
  (((s.withCls_quiet _).trans (State.toZone_quiet _ _)).trans (State.zoneTold_quiet _ _)).trans
    (State.recomputeUsable_quiet _)

theorem State.sampleAct_quiet : s.Quiet s.sampleAct := by
  unfold State.sampleAct; dsimp only; split
  · exact s.withEst_quiet _
  · exact (s.withEst_quiet _).trans (State.recomputeUsable_quiet _)

theorem State.setMasks_quiet (r : MaskReq) : s.Quiet (s.setMasks r) :=
  (s.withDev_quiet { s.dev with mask := r.device }).trans
    (State.forSlots_quiet _ fun m u => u.modStream_quiet m fun _ => .of_bond (by rfl))

theorem State.clearFlags_quiet : s.Quiet s.clearFlags :=
  (s.withDev_quiet { s.dev with flags := 0 }).trans
    (State.forSlots_quiet _ fun m u => u.modStream_quiet m fun _ => .of_bond (by rfl))

theorem Stream.tuned_quiet (st : Stream) (r : TuneReq) : st.Quiet (st.tuned r) := by
  unfold Stream.tuned Stream.lifted; dsimp only
  split
  · split <;> exact .of_bond rfl
  · exact .of_bond rfl

/-! ### The line -/

theorem State.receiverTo_quiet (r : Receiver) : s.Quiet (s.receiverTo r) := .of_streams rfl rfl fun _ => rfl

theorem State.receiveFault_quiet : s.Quiet s.receiveFault :=
  (s.receiverTo_quiet _).trans (State.raiseDevice_quiet _ _)

theorem State.frameComplete_quiet (f : Frame) : s.Quiet (s.frameComplete f) := by
  unfold State.frameComplete; split
  · exact .of_streams rfl rfl fun _ => rfl
  · exact s.raiseDevice_quiet _

theorem State.takeByte_quiet (b : Byte) : s.Quiet (s.takeByte b) := by
  unfold State.takeByte; split
  · split
    · exact s.receiverTo_quiet _
    · exact .refl s
  · split
    · exact s.receiverTo_quiet _
    · exact s.receiveFault_quiet
  · split <;> exact s.receiverTo_quiet _
  · split
    · exact s.receiveFault_quiet
    · split
      · exact (s.receiverTo_quiet _).trans (State.frameComplete_quiet _ _)
      · exact s.receiveFault_quiet

theorem State.receiveByte_quiet (b : Byte) (low : Bool) : s.Quiet (s.receiveByte b low) := by
  unfold State.receiveByte; split
  · split
    · exact .refl s
    · exact s.receiveFault_quiet
  · exact s.takeByte_quiet b

theorem State.offer_quiet (f : Frame) : s.Quiet (s.offer f) := by
  unfold State.offer; split
  · exact .refl s
  · split
    · exact s.frameComplete_quiet f
    · exact .refl s

theorem State.popFrame_quiet : s.Quiet s.popFrame := .of_streams rfl rfl fun _ => rfl

theorem State.idle_quiet : s.Quiet s.idle :=
  have rest : s.idle.pool = s.pool ∧ s.idle.arb = s.arb := by
    unfold State.idle State.passTime
    split
    · split
      · split
        · split <;> exact ⟨rfl, rfl⟩
        · exact ⟨rfl, rfl⟩
      · exact ⟨rfl, rfl⟩
    · exact ⟨rfl, rfl⟩
  .of_streams rest.1 (congrArg Arbiter.slotLimit rest.2) s.idle_stream

end Sys2Proof.Machine
end

section
namespace Sys2Proof.Machine

/-! ### The acts -/

/-- Nothing of an old position is left in the stream. -/
structure Stream.Vacant (st : Stream) : Prop where
  window : st.window = []
  buffer : st.buffer = []
  origin : st.origin = none
  finalKnown : st.finalKnown = false
  probeLive : st.probeLive = false

/-- What one act of a command makes of a state: a quiet change, or one of the operations on windows, buffer queues and
records. -/
inductive State.Act (s : State) : State → Prop
  | quiet {t : State} (h : s.Quiet t) : s.Act t
  /-- LIMITS writes the slot limit (R166, R167). -/
  | limit {t : State} (pool : t.pool = s.pool) (low : 1 ≤ t.arb.slotLimit) (high : t.arb.slotLimit ≤ 8)
      (streams : ∀ m, (s.stream m).Quiet (t.stream m)) : s.Act t
  /-- A record's marks of progress change (R55, R60). -/
  | report (tag : Nat) (g : Record → Record)
      (same : ∀ r, (g r).tag = r.tag ∧ (g r).slot = r.slot ∧ (g r).kind = r.kind ∧ (g r).segment = r.segment ∧
        (g r).rung = r.rung) : s.Act (s.changeRecord tag g)
  | grantNormal (n : Slot) (may : s.mayGrant = true) (next : s.nextNormal = some n) : s.Act (s.grantNormal n)
  | grantProbe (n : Slot) (may : s.mayGrant = true) (next : s.nextProbe = some n) : s.Act (s.grantProbe n)
  /-- The rescue drops a NORMAL record (R86). -/
  | rescue (r : Record) (d : DropReason) (mem : r ∈ s.pool.records) (normal : r.isNormal = true) : s.Act (s.dropToWaiting r d)
  /-- PROBE records are dropped one after the other (R85, R118, R153). -/
  | failProbes (rs : List Record) (d : DropReason) (mem : rs.Subperm s.pool.records)
      (probes : ∀ r ∈ rs, r.isNormal = false) : s.Act (rs.foldl (fun s r => s.failProbe r d) s)
  | land (r : Record) (bytes : Nat) (mem : r ∈ s.pool.records) : s.Act (s.landAct r bytes)
  | breakOff (r : Record) (mem : r ∈ s.pool.records) : s.Act (s.breakAct r)
  /-- The deadline of a NORMAL or REFETCH record is missed (R64). -/
  | abandon (r : Record) (d : DropReason) (mem : r ∈ s.pool.records) (normal : r.isNormal = true) :
      s.Act ((s.dropRecord r d).failEntry r.slot r.segment)
  | append (body : List Byte) (r : AppendReq) (passed : s.checkAppend body = .ok r) :
      s.Act ((s.modStream r.slot fun st => st.appended r.entries).windowChanged r.slot)
  | position (n : Slot) (seg off : Nat) (bs : List BufferEntry) (found : resync seg off (s.stream n).buffer = some bs) :
      s.Act ((s.modStream n fun st => { st with buffer := bs, acc := 0 }).windowChanged n)
  | drain (n : Slot) : s.Act ((s.modStream n Stream.drained).reevaluate n)
  /-- The end of the presentation (R18). -/
  | finish (n : Slot) (empty : (s.stream n).window = []) : s.Act (s.modStream n fun st => { st with state := .ended })
  /-- SEEK, STOP and CLOSE empty a stream and drop its records (R19 to R21). -/
  | vacate {t : State} (n : Slot) (d : DropReason) (dropped : State.Vacated n d s t) (empty : (t.stream n).Vacant) : s.Act t
  /-- OPEN takes a CLOSED slot (R4). -/
  | fresh (n : Slot) (st : Stream) (inactive : (s.stream n).active = false) (empty : st.Vacant) : s.Act (s.setStream n st)
  /-- LADDER and the start of playback end any probe of an IDLE stream (R28, R136). -/
  | unprobed (n : Slot) (f : Stream → Stream) (inactive : (s.stream n).active = false)
      (quiet : ({ s.stream n with probeLive := false } : Stream).Quiet (f (s.stream n))) : s.Act (s.modStream n f)
  /-- RESTART and the start of the time base close every slot (R172 to R174). -/
  | closed {t : State} (records : t.pool.records = [])
      (nextTag : t.pool.nextTag = s.pool.nextTag ∨ t.pool.nextTag = 1)
      (limit : t.arb.slotLimit = s.arb.slotLimit ∨ t.arb.slotLimit = 3) (empty : ∀ m, (t.stream m).Vacant)
      (state : ∀ m, (t.stream m).state = .closed) : s.Act t

/-- A chain of acts. -/
def State.Acts : State → State → Prop := Relation.ReflTransGen State.Act

variable {s t u : State}

theorem State.Acts.refl (s : State) : s.Acts s := Relation.ReflTransGen.refl

theorem State.Acts.trans (a : s.Acts t) (b : t.Acts u) : s.Acts u := Relation.ReflTransGen.trans a b

theorem State.Acts.act (a : s.Acts t) (b : t.Act u) : s.Acts u := Relation.ReflTransGen.tail a b

theorem State.Acts.quiet (a : s.Acts t) (b : t.Quiet u) : s.Acts u := a.act (.quiet b)

theorem State.Act.acts (a : s.Act t) : s.Acts t := (State.Acts.refl s).act a

theorem State.Quiet.acts (a : s.Quiet t) : s.Acts t := (State.Act.quiet a).acts

theorem State.Acts.reply (a : s.Acts t) (k : Byte) (e : Status) (fs : List Byte) : s.Acts (t.reply k e fs) :=
  a.quiet (t.reply_quiet k e fs)

/-- What every act keeps, a chain of acts keeps. -/
theorem State.Acts.keeps {P : State → Prop} (each : ∀ s t, State.Act s t → P s → P t) (a : s.Acts t) (h : P s) : P t := by
  induction a with
  | refl => exact h
  | tail _ last ih => exact each _ _ last ih

/-! ### Arbitration -/

theorem State.grants_acts (k : Nat) : ∀ s : State, s.Acts (State.grants k s) := by
  induction k with
  | zero => exact .refl
  | succ k ih =>
    intro s
    unfold State.grants
    split
    · rename_i may
      split
      · rename_i next; exact (State.Act.grantNormal _ may next).acts.trans (ih _)
      · rename_i next; exact (State.Act.grantProbe _ may next).acts.trans (ih _)
      · exact .refl s
    · exact .refl s

theorem State.arbitrate_acts (s : State) : s.Acts s.arbitrate :=
  (s.forSlots_quiet State.dryTest_quiet).acts.trans (State.grants_acts 8 _)

theorem State.Acts.arbitrate (a : s.Acts t) : s.Acts t.arbitrate := a.trans t.arbitrate_acts

theorem State.Acts.settle (a : s.Acts t) (b : State) : s.Acts (t.settle b) := by
  unfold State.settle; split
  · exact a.arbitrate
  · exact a

/-! ### Requests and expiries -/

theorem State.Acts.whenRunning {act : State → State} (h : s.Acts (act s)) : s.Acts (s.whenRunning act) := by
  unfold State.whenRunning; split
  · exact h
  · exact .refl s

theorem State.Acts.atExpiry {timer : Option Nat} {act : State → State} (h : ∀ u : State, u.Acts (act u)) :
    s.Acts (s.atExpiry timer act) := by
  unfold State.atExpiry; split
  · exact (s.reach_quiet _).acts.trans (h _)
  · exact .refl s

theorem State.Acts.expiry {timer : State → Option Nat} {act : State → State} (h : ∀ u : State, u.Acts (act u)) :
    s.Acts (s.whenRunning fun s => s.atExpiry (timer s) act) :=
  .whenRunning (.atExpiry h)

theorem State.Acts.takeRequest {f : Frame} {act : State → State} (h : ∀ u : State, u.Acts (act u)) :
    s.Acts (s.takeRequest f act) :=
  State.takeRequest_keeps (P := s.Acts) (.refl s) (s.offer_quiet f).acts
    fun _ => ((s.offer_quiet f).trans (State.popFrame_quiet _)).acts.trans (h _)

theorem State.Acts.request {α : Type} {kind : Byte} {body : List Byte} {check : State → Except Status α}
    {act : α → State → State} (h : ∀ a (u : State), check u = .ok a → u.Acts (act a u)) :
    s.Acts (s.request kind body check act) :=
  have taken := (s.offer_quiet ⟨kind, body⟩).trans (State.popFrame_quiet _)
  State.request_keeps (P := s.Acts) (.refl s) (s.offer_quiet _).acts (fun _ e => taken.acts.reply kind e [])
    fun _ a passed => taken.acts.trans (h a _ passed)

theorem State.Acts.requestIf {α : Type} {own : Bool} {kind : Byte} {body : List Byte} {check : State → Except Status α}
    {act : α → State → State} (h : ∀ a (u : State), check u = .ok a → u.Acts (act a u)) :
    s.Acts (s.requestIf own kind body check act) :=
  State.requestIf_keeps (P := s.Acts) (.refl s) fun _ => .request h

end Sys2Proof.Machine
end

section
namespace Sys2Proof.Machine

/-! ### The commands as chains of acts -/

variable (s : State) (n : Slot)

/-! #### Streams emptied -/

theorem Stream.Vacant.quiet {a b : Stream} (h : a.Vacant) (q : a.Quiet b) : b.Vacant :=
  ⟨q.window.trans h.window, q.buffer.trans h.buffer, q.origin.trans h.origin, q.finalKnown.trans h.finalKnown,
    q.probeLive.trans h.probeLive⟩

theorem State.modStream_vacant {s : State} {n : Slot} {f : Stream → Stream} (h : (s.stream n).Vacant)
    (hf : ∀ st : Stream, st.Vacant → (f st).Vacant) : ((s.modStream n f).stream n).Vacant := by
  rw [State.stream_modStream_same]; exact hf _ h

theorem State.emptyStream_vacant (d : DropReason) (g : GateReason) : ((s.emptyStream n d g).stream n).Vacant := by
  refine Stream.Vacant.quiet ?_ ((State.leavePlaying_quiet _ n g).streams n)
  rw [State.stream_modStream_same, State.reevaluate_stream, State.stream_modStream_same]
  exact ⟨rfl, rfl, rfl, rfl, rfl⟩

theorem State.seekBegun_vacant : ((s.seekBegun n).stream n).Vacant := by
  unfold State.seekBegun State.enterStarting
  exact State.modStream_vacant (State.modStream_vacant (s.emptyStream_vacant n _ _)
    fun _ h => ⟨h.window, h.buffer, h.origin, h.finalKnown, h.probeLive⟩)
    fun _ h => ⟨h.window, h.buffer, h.origin, h.finalKnown, h.probeLive⟩

theorem State.stopBegun_vacant : ((s.stopBegun n).stream n).Vacant := by
  unfold State.stopBegun
  exact State.modStream_vacant (s.emptyStream_vacant n _ _)
    fun _ h => ⟨h.window, h.buffer, h.origin, h.finalKnown, h.probeLive⟩

theorem Stream.closed_vacant (flags mask : BitVec 11) :
    ({ Stream.closed with flags := flags, mask := mask } : Stream).Vacant := ⟨rfl, rfl, rfl, rfl, rfl⟩

theorem State.closeBegun_vacant : ((s.closeBegun n).stream n).Vacant := by
  rw [State.closeBegun_stream]; exact Stream.closed_vacant _ _

theorem State.seekAct_acts : s.Acts (s.seekAct n) :=
  ((State.Act.vacate n .seek (s.seekBegun_vacated n) (s.seekBegun_vacant n)).acts.quiet
    (State.reallocateIf_quiet _ _)).quiet (State.readinessTest_quiet _ n)

theorem State.stopAct_acts : s.Acts (s.stopAct n) :=
  (State.Act.vacate n .stop (s.stopBegun_vacated n) (s.stopBegun_vacant n)).acts.quiet (State.reallocateIf_quiet _ _)

theorem State.closeAct_acts : s.Acts (s.closeAct n) :=
  (State.Act.vacate n .close (s.closeBegun_vacated n) (s.closeBegun_vacant n)).acts.quiet (State.reallocateIf_quiet _ _)

theorem State.closeAll_acts : s.Acts s.closeAll := by
  have arb : s.closeAll.arb.slotLimit = s.arb.slotLimit :=
    State.forSlots_keeps (fun u : State => u.arb.slotLimit) _ (fun _ _ => rfl) _
  refine (State.Act.closed (by rw [State.closeAll_pool]) (.inl (by rw [State.closeAll_pool])) (.inl arb) ?_ ?_).acts <;>
    intro m <;> rw [State.closeAll_stream]
  · exact Stream.closed_vacant _ _
  · rfl

theorem State.resetLink_acts (none : s.pool.records = []) : s.Acts s.resetLink := by
  have arb : s.resetLink.arb.slotLimit = 3 :=
    State.forSlots_keeps (fun u : State => u.arb.slotLimit) _ (fun _ _ => rfl) _
  refine (State.Act.closed (by rw [State.resetLink_pool, none]) (.inl (by rw [State.resetLink_pool])) (.inr arb) ?_ ?_).acts <;>
    intro m <;> rw [State.resetLink_stream]
  · exact Stream.closed_vacant _ _
  · rfl

/-! #### PLAY -/

theorem State.playAct_acts : s.Acts (s.playAct n) := by
  unfold State.playAct; split
  · rename_i idle
    have begun : s.Act (s.modStream n Stream.startOfPlayback) :=
      .unprobed n _ (by simp [Stream.active, idle]) (.of_bond rfl)
    exact ((begun.acts.quiet (State.enterStarting_quiet _ n)).quiet (State.reallocate_quiet _)).quiet
      (State.readinessTest_quiet _ n)
  · split
    · exact ((s.enterStarting_quiet n).trans (State.readinessTest_quiet _ n)).acts
    · exact (s.enterPlaying_quiet n _).acts
  all_goals exact .refl s

/-! #### LINK -/

theorem State.failProbe_act {r : Record} (d : DropReason) (mem : r ∈ s.pool.records) (probe : r.isNormal = false) :
    s.Act (s.failProbe r d) :=
  .failProbes [r] d (List.singleton_subperm_iff.mpr mem) fun _ hx => List.mem_singleton.mp hx ▸ probe

theorem State.choiceTaken_quiet : s.Quiet s.choiceTaken := .of_streams rfl rfl fun _ => rfl

theorem State.enterJammed_acts : s.Acts s.enterJammed := by
  have order := s.clampAll.probesToDrop_perm
  have clamped : s.Acts s.clampAll.choiceTaken := (s.clampAll_quiet.trans (State.choiceTaken_quiet _)).acts
  rw [State.enterJammed_eq]
  refine clamped.act (.failProbes _ .zone ?_ fun r hr => ?_)
  · exact order.subperm.trans List.filter_sublist.subperm
  · simpa using (List.mem_filter.mp (order.subset hr)).2

theorem State.zoneRise_acts (z : Zone) : s.Acts (s.zoneRise z) := by
  have risen := (s.withCls_quiet { s.cls with dwellTimer := none }).trans (State.toZone_quiet _ z)
  have entered : ∀ {u : State}, s.Quiet u → s.Acts (if z = .jammed then u.enterJammed else u) := fun hu => by
    split
    · exact hu.acts.trans (State.enterJammed_acts _)
    · exact hu.acts
  refine entered ?_
  split
  · exact risen.trans (State.crowdedFall_quiet _)
  · exact risen

theorem State.classify_acts (raw : Zone) : s.Acts (s.classify raw) := by
  unfold State.classify; dsimp only; split
  · exact (s.withCls_quiet _).acts.trans (State.zoneRise_acts _ raw)
  · exact ((s.withCls_quiet { s.cls with raw := raw }).trans (State.withCls_quiet _ _)).acts

theorem State.linkAct_acts (r : LinkReq) : s.Acts (s.linkAct r) :=
  (((s.sagStep_quiet _).acts.trans (State.classify_acts _ _)).quiet (State.zoneTold_quiet _ _)).quiet
    (State.linkUsable_quiet _ _)

/-! #### Timers -/

theorem State.stallProbe_acts : s.Acts (s.stallProbe n) := by
  unfold State.stallProbe; split
  · rename_i r found
    obtain ⟨mem, -, probe⟩ := State.mem_of_probeRecord n found
    exact (s.failProbe_act .stall mem probe).acts
  · exact .refl s

theorem State.rescue_acts : s.Acts (s.rescue n) := by
  unfold State.rescue; split
  · rename_i r found
    obtain ⟨mem, -, normal⟩ := State.mem_of_normalRecord n found
    split
    · exact (State.Act.rescue r .rescue mem normal).acts.quiet (State.modStream_quiet _ n fun _ => .of_bond (by rfl))
    · exact .refl s
  · exact .refl s

theorem State.underrun_acts : s.Acts (s.underrun n) :=
  (((s.enterRebuffering_quiet n).trans (State.fall_quiet _ n _)).acts.trans (State.stallProbe_acts _ n)).trans
    (State.rescue_acts _ n)

theorem State.endOfPresentation_acts (empty : (s.stream n).window = []) : s.Acts (s.endOfPresentation n) := by
  have left := s.leavePlaying_quiet n .ended
  exact ((left.acts.act (.finish n ((left.streams n).window.trans empty))).quiet (State.raise_quiet _ n _)).quiet
    (State.reallocate_quiet _)

theorem State.drainAct_acts : s.Acts (s.drainAct n) := by
  have drained := (State.Act.drain (s := s) n).acts
  unfold State.drainAct State.drainEnd; dsimp only; split
  · split
    · rename_i last; exact drained.trans (State.endOfPresentation_acts _ n last.1)
    · exact drained.trans (State.underrun_acts _ n)
  · exact drained

theorem State.startExpiry_acts (c : Prop) [Decidable c] :
    s.Acts (if c then ((s.modStream n fun st => { st with startTimer := none }).raise n .startLate).modStream n
        fun st => { st with overdue := true }
      else ((s.modStream n fun st => { st with startTimer := none }).raise n .startLate).enterPlaying n .start) := by
  have raised : s.Quiet ((s.modStream n fun st => { st with startTimer := none }).raise n .startLate) :=
    (s.modStream_quiet n fun _ => .of_bond (by rfl)).trans (State.raise_quiet _ n _)
  split
  · exact (raised.trans (State.modStream_quiet _ n fun _ => .of_bond (by rfl))).acts
  · exact (raised.trans (State.enterPlaying_quiet _ n _)).acts

theorem State.envelopeAct_acts : s.Acts (s.envelopeAct n) := by
  have restarted : s.Quiet (s.modStream n fun st => { st with stepTimer := s.restartedStep st st.ceiling }) :=
    s.modStream_quiet n fun _ => .of_bond (by rfl)
  unfold State.envelopeAct; split
  · exact (s.modStream_quiet n fun _ => .of_bond (by rfl)).acts
  · exact (s.modStream_quiet n fun _ => .of_bond (by rfl)).acts
  · dsimp only
    split
    · exact (restarted.trans (State.modStream_quiet _ n fun _ => .of_bond (by rfl))).acts.arbitrate
    · exact restarted.acts
  · exact .refl s

/-! #### The line and LIMITS -/

theorem State.startFrame_acts (f : TxFrame) (q : List TxFrame) : s.Acts (s.startFrame f q) := by
  have sent : s.Acts ({ s with tx := { queue := q, sending := some ⟨f.line s.groupField,
      5 * (f.line s.groupField).length⟩ } }.announce f) := by
    have taken : s.Quiet { s with tx := { queue := q, sending := some ⟨f.line s.groupField,
        5 * (f.line s.groupField).length⟩ } } := .of_streams rfl rfl fun _ => rfl
    cases f with
    | fetch d =>
      exact taken.acts.act (.report d.tag (fun r => { r with announcePending := false }) fun _ => ⟨rfl, rfl, rfl, rfl, rfl⟩)
    | hello _ | drop _ _ | gate _ _ _ | note | reply _ _ => exact taken.acts
  unfold State.startFrame; dsimp only; split
  · exact sent.arbitrate
  · exact sent

theorem State.applyLimits_acts (r : LimitsReq) (ok : limitsRangesOk r = true) : s.Acts (s.applyLimits r) := by
  simp only [limitsRangesOk, Bool.and_eq_true, decide_eq_true_eq] at ok
  obtain ⟨⟨⟨-, -, -, -, low, high, -⟩, -⟩, -⟩ := ok
  have written : s.Act (s.writeLimits r) := .limit rfl low high fun _ => .refl _
  have loaded : s.Acts ((s.writeLimits r).loadStart r.startEstimate) := by
    unfold State.loadStart; split
    · exact written.acts
    · exact written.acts.quiet (State.withEst_quiet _ _)
  unfold State.applyLimits; dsimp only; split
  · exact loaded.quiet (State.recomputeUsable_quiet _)
  · split
    · exact loaded.quiet (State.reallocate_quiet _)
    · exact loaded

/-! #### What the checks of a report and of POSITION establish -/

theorem State.mem_of_reachable {tag : Nat} {r : Record} (h : s.reachable tag = some r) : r ∈ s.pool.records := by
  unfold State.reachable at h
  split at h
  · rename_i found
    split at h
    · cases h; exact State.mem_of_recordOf found
    · cases h
  · cases h

theorem State.mem_of_checkCount {body : List Byte} {q : Record × Nat} (h : s.checkCount body = .ok q) :
    q.1 ∈ s.pool.records := by
  unfold State.checkCount at h
  split at h
  · cases h
  · split at h
    · cases h
    · rename_i found
      split at h
      · cases h
      · cases h; exact s.mem_of_reachable found

theorem State.mem_of_checkBroken {body : List Byte} {r : Record} (h : s.checkBroken body = .ok r) : r ∈ s.pool.records := by
  unfold State.checkBroken at h
  split at h
  · cases h
  · split at h
    · cases h
    · rename_i found; cases h; exact s.mem_of_reachable found

theorem State.resync_of_checkPosition {body : List Byte} {q : Slot × List BufferEntry} (h : s.checkPosition body = .ok q) :
    ∃ seg off, resync seg off (s.stream q.1).buffer = some q.2 := by
  unfold State.checkPosition at h
  split at h
  · cases h
  · split at h
    · split at h
      · rename_i found; cases h; exact ⟨_, _, found⟩
      · cases h
    · cases h

/-- Every command is a chain of acts. -/
theorem exec_acts {s t : State} (c : Instr) (run : exec c s = .next t) : s.Acts t := by
  cases c with
  | nrstAssert => obtain rfl := Host.Outcome.next.inj run; exact State.Quiet.acts (.of_streams rfl rfl fun _ => rfl)
  | nrstRelease =>
    obtain rfl := Host.Outcome.next.inj run
    split
    · exact State.Quiet.acts (.of_streams rfl rfl fun _ => rfl)
    · exact .refl s
  | timeBaseStart =>
    obtain rfl := Host.Outcome.next.inj run
    split
    · refine (State.Act.closed rfl (.inr rfl) (.inr rfl) (fun m => ?_) fun m => ?_).acts
      · fin_cases m <;> exact Stream.closed_vacant 0 (BitVec.allOnes 11)
      · fin_cases m <;> rfl
    · exact .refl s
  | receiveByte b low => obtain rfl := Host.Outcome.next.inj run; exact .whenRunning (s.receiveByte_quiet b low).acts
  | gapTimerExpiry => obtain rfl := Host.Outcome.next.inj run; exact .expiry fun u => u.receiveFault_quiet.acts
  | unknownKindRequest kind body =>
    obtain rfl := Host.Outcome.next.inj run
    split
    · exact .refl s
    · exact .takeRequest fun u => (u.reply_quiet _ _ _).acts
  | transmitStart =>
    obtain rfl := Host.Outcome.next.inj run
    refine .whenRunning ?_
    split
    · exact s.startFrame_acts _ _
    · exact .refl s
    · exact .refl s
  | transmitComplete =>
    obtain rfl := Host.Outcome.next.inj run
    exact .whenRunning (State.Quiet.acts (.of_streams rfl rfl fun _ => rfl))
  | ident body => obtain rfl := Host.Outcome.next.inj run; exact .request fun _ u _ => (u.reply_quiet _ _ _).acts
  | restartStreams body =>
    obtain rfl := Host.Outcome.next.inj run
    exact .requestIf fun _ u _ => (u.closeAll_acts.quiet (State.setQueue_quiet _ _)).reply _ _ _
  | restartAll body =>
    obtain rfl := Host.Outcome.next.inj run
    exact .requestIf fun _ u _ => (((u.closeAll_acts.trans (State.resetLink_acts _ (by rw [State.closeAll_pool]))).quiet
      (State.setQueue_quiet _ _)).reply _ _ _).quiet (State.pushTx_quiet _ _)
  | limits body =>
    obtain rfl := Host.Outcome.next.inj run
    exact .request fun r u passed => (u.applyLimits_acts r (limitsRangesOk_of_parseLimits passed)).arbitrate.reply _ _ _
  | mask body =>
    obtain rfl := Host.Outcome.next.inj run
    exact .request fun r u _ => ((u.setMasks_quiet r).trans (State.noteIfTurned_quiet _ _)).acts.reply _ _ _
  | flags body => obtain rfl := Host.Outcome.next.inj run; exact .request fun _ u _ => u.clearFlags_quiet.acts.reply _ _ _
  | queryStream body => obtain rfl := Host.Outcome.next.inj run; exact .requestIf fun _ u _ => (u.reply_quiet _ _ _).acts
  | queryLink body => obtain rfl := Host.Outcome.next.inj run; exact .requestIf fun _ u _ => (u.reply_quiet _ _ _).acts
  | queryRecord body => obtain rfl := Host.Outcome.next.inj run; exact .requestIf fun _ u _ => (u.reply_quiet _ _ _).acts
  | openSlot body =>
    obtain rfl := Host.Outcome.next.inj run
    refine .request fun r u passed => State.Acts.reply (State.Act.fresh r.slot _ ?_ ⟨rfl, rfl, rfl, rfl, rfl⟩).acts _ _ _
    have closed := (State.parse_of_checkOpen passed).2
    simp only [Stream.isOpen, bne_eq_false_iff_eq] at closed
    simp [Stream.active, closed]
  | tune body =>
    obtain rfl := Host.Outcome.next.inj run
    exact .request fun r u _ => (u.modStream_quiet r.slot fun st => st.tuned_quiet r).acts.reply _ _ _
  | ladder body =>
    obtain rfl := Host.Outcome.next.inj run
    refine .request fun r u passed => State.Acts.reply (State.Act.unprobed r.slot _ ?_ (.of_bond rfl)).acts _ _ _
    simp [Stream.active, State.idle_of_checkLadder passed]
  | append body =>
    obtain rfl := Host.Outcome.next.inj run
    exact .request fun r u passed => (State.Act.append body r passed).acts.arbitrate.reply _ _ _
  | play body =>
    obtain rfl := Host.Outcome.next.inj run
    exact .requestIf fun r u _ => (u.playAct_acts r.slot).arbitrate.reply _ _ _
  | pause body =>
    obtain rfl := Host.Outcome.next.inj run
    exact .requestIf fun r u _ => (u.pauseAct_quiet r.slot).acts.reply _ _ _
  | seek body =>
    obtain rfl := Host.Outcome.next.inj run
    exact .requestIf fun r u _ => ((u.seekAct_acts r.slot).settle _).reply _ _ _
  | stop body =>
    obtain rfl := Host.Outcome.next.inj run
    exact .requestIf fun r u _ => ((u.stopAct_acts r.slot).settle _).reply _ _ _
  | close body =>
    obtain rfl := Host.Outcome.next.inj run
    refine .request fun n u _ => ?_
    dsimp only
    split
    · exact (u.closeAct_acts n).arbitrate.reply _ _ _
    · exact (u.closeAct_acts n).reply _ _ _
  | position body =>
    obtain rfl := Host.Outcome.next.inj run
    refine .request fun r u passed => ?_
    obtain ⟨seg, off, found⟩ := u.resync_of_checkPosition passed
    exact ((State.Act.position r.1 seg off r.2 found).acts.settle _).reply _ _ _
  | probe body =>
    obtain rfl := Host.Outcome.next.inj run
    exact .request fun n u _ => (u.modStream_quiet n fun _ => .of_bond (by rfl)).acts.arbitrate.reply _ _ _
  | tally body =>
    obtain rfl := Host.Outcome.next.inj run
    exact .request fun q u _ => ((u.withEst_quiet _).acts.act
      (.report q.1.tag (fun r => { r with reported := q.2, running := true }) fun _ => ⟨rfl, rfl, rfl, rfl, rfl⟩)).reply _ _ _
  | landed body =>
    obtain rfl := Host.Outcome.next.inj run
    exact .request fun q u passed => (State.Act.land q.1 q.2 (u.mem_of_checkCount passed)).acts.arbitrate.reply _ _ _
  | broken body =>
    obtain rfl := Host.Outcome.next.inj run
    exact .request fun r u passed => (State.Act.breakOff r (u.mem_of_checkBroken passed)).acts.arbitrate.reply _ _ _
  | link body =>
    obtain rfl := Host.Outcome.next.inj run
    exact .request fun r u _ => ((u.linkAct_acts r).settle _).reply _ _ _
  | startTimerExpiry n => obtain rfl := Host.Outcome.next.inj run; exact .expiry fun u => u.startExpiry_acts n _
  | stallTimerExpiry n =>
    obtain rfl := Host.Outcome.next.inj run
    exact .expiry fun u => ((u.modStream_quiet n fun _ => .of_bond (by rfl)).trans
      ((State.raise_quiet _ n _).trans (State.fall_quiet _ n _))).acts
  | drainStep n => obtain rfl := Host.Outcome.next.inj run; exact .expiry fun u => (u.drainAct_acts n).settle _
  | deadlineExpiry tag =>
    obtain rfl := Host.Outcome.next.inj run
    refine .whenRunning ?_
    split
    · rename_i r found
      split
      · rename_i normal
        have mem : r ∈ (s.reach r.deadline).pool.records := by rw [State.reach_pool]; exact State.mem_of_recordOf found
        exact ((((s.reach_quiet _).acts.act (.abandon r .deadline mem normal)).quiet (State.raise_quiet _ _ _)).quiet
          (State.fall_quiet _ _ _)).arbitrate
      · exact .refl s
    · exact .refl s
  | probeDeadlineExpiry tag =>
    obtain rfl := Host.Outcome.next.inj run
    refine .whenRunning ?_
    split
    · rename_i r found
      split
      · exact .refl s
      · rename_i probe
        have mem : r ∈ (s.reach r.deadline).pool.records := by rw [State.reach_pool]; exact State.mem_of_recordOf found
        exact ((s.reach_quiet _).acts.act (State.failProbe_act _ .deadline mem (by simpa using probe))).arbitrate
    · exact .refl s
  | sampleTimerExpiry => obtain rfl := Host.Outcome.next.inj run; exact .expiry fun u => u.sampleAct_quiet.acts
  | dwellExpiry => obtain rfl := Host.Outcome.next.inj run; exact .expiry fun u => u.dwellAct_quiet.acts
  | envelopeStepExpiry n => obtain rfl := Host.Outcome.next.inj run; exact .expiry fun u => u.envelopeAct_acts n

/-- Every step is a chain of acts, from the state with the queue's rest. -/
theorem step_acts {s t : State} (run : step s = .next t) : s.Acts t := by
  rcases step_cases run with rfl | ⟨c, rest, -, run⟩
  · exact s.idle_quiet.acts
  · have popped : s.Quiet { s with pending := rest } := .of_streams rfl rfl fun _ => rfl
    exact popped.acts.trans (exec_acts c run)

end Sys2Proof.Machine
end

section
namespace Sys2Proof.Machine

/-! ## Landed entries at the head of a window (R71) -/

/-- What leaves the head of a window once its landed entries are told from what stays. -/
theorem takeLanded_append (moved : List (WindowEntry × Nat × Nat)) {stay : List WindowEntry} (h : headNotLanded stay) :
    takeLanded (moved.map landedEntry ++ stay) =
      (moved.map (fun m => ⟨m.1.segment, m.2.1, m.1.duration, m.1.duration⟩), moved.any (fun m => m.1.last), stay) := by
  induction moved with
  | nil =>
    cases stay with
    | nil => rfl
    | cons e w =>
      have notLanded := h e
      cases state : e.state with
      | waiting | inFlight _ => simp [takeLanded, state]
      | landedEarly rung bytes => exact absurd state (notLanded rung bytes rfl)
  | cons m moved ih =>
    simp only [List.map_cons, List.cons_append, landedEntry, takeLanded, ih, List.any_cons]

/-- A window is its landed entries at the head and what stays. -/
theorem exists_landed_append (w : List WindowEntry) :
    ∃ (moved : List (WindowEntry × Nat × Nat)) (stay : List WindowEntry),
      headNotLanded stay ∧ w = moved.map landedEntry ++ stay := by
  induction w with
  | nil => exact ⟨[], [], nofun, rfl⟩
  | cons e w ih =>
    cases state : e.state with
    | waiting | inFlight _ =>
      refine ⟨[], e :: w, fun x rung bytes head landed => ?_, rfl⟩
      cases head
      rw [state] at landed; cases landed
    | landedEarly rung bytes =>
      obtain ⟨moved, stay, stays, rfl⟩ := ih
      refine ⟨(e, rung, bytes) :: moved, stay, stays, ?_⟩
      rw [List.map_cons, landedEntry, ← state]; rfl

/-- The contiguous move, the landed entries told from what stays (R71, R72, R39). -/
theorem Stream.moved_eq {st : Stream} {moved : List (WindowEntry × Nat × Nat)} {stay : List WindowEntry}
    (h : headNotLanded stay) (window : st.window = moved.map landedEntry ++ stay) : st.moved = st.afterMove moved stay := by
  unfold Stream.moved Stream.afterMove
  rw [window, takeLanded_append moved h]
  simp only [List.getLast?_map]
  cases moved.getLast? <;> rfl

/-! ## Windows and buffer queues in order (R29, R38, R70) -/

/-- What is left of a buffer queue when its head entries have left: nothing, or a rest with some of its first entry's time. -/
def RestOf (rest queue : List BufferEntry) : Prop :=
  rest = [] ∨ ∃ gone b bs left, queue = gone ++ b :: bs ∧ rest = { b with remaining := left } :: bs ∧
    1 ≤ left ∧ left ≤ b.duration

theorem RestOf.tail {rest queue : List BufferEntry} (h : RestOf rest queue) (x : BufferEntry) : RestOf rest (x :: queue) := by
  rcases h with none | ⟨gone, b, bs, left, rfl, some⟩
  · exact .inl none
  · exact .inr ⟨x :: gone, b, bs, left, rfl, some⟩

theorem drainQueue_restOf {queue : List BufferEntry} (times : ∀ b ∈ queue, 1 ≤ b.remaining ∧ b.remaining ≤ b.duration) :
    ∀ amount, RestOf (drainQueue amount queue).1 queue := by
  induction queue with
  | nil => exact fun _ => .inl rfl
  | cons b bs ih =>
    intro amount
    obtain ⟨pos, le⟩ := times b List.mem_cons_self
    unfold drainQueue
    split
    · exact .inr ⟨[], b, bs, b.remaining, rfl, rfl, pos, le⟩
    · split
      · exact .inr ⟨[], b, bs, b.remaining - amount, rfl, rfl, by omega, by omega⟩
      · exact (ih (fun x hx => times x (List.mem_cons_of_mem _ hx)) _).tail b

theorem resync_restOf {seg off : Nat} {queue rest : List BufferEntry} (h : resync seg off queue = some rest) :
    RestOf rest queue := by
  induction queue with
  | nil => cases h
  | cons b bs ih =>
    unfold resync at h
    split at h
    · split at h
      · cases h; exact .inr ⟨[], b, bs, b.duration - off, rfl, rfl, by omega, by omega⟩
      · cases h
    · exact (ih h).tail b

variable {a b st : Stream}

/-- The order reads the window, the buffer queue and the append origin alone. -/
theorem Stream.ordered.congr (h : a.ordered) (window : b.window = a.window) (buffer : b.buffer = a.buffer)
    (origin : b.origin = a.origin) : b.ordered := by
  unfold Stream.ordered at h ⊢
  rwa [window, buffer, origin]

theorem Stream.ordered.quiet (h : a.ordered) (q : a.Quiet b) : b.ordered := h.congr q.window q.buffer q.origin

theorem Stream.Vacant.ordered (h : st.Vacant) : st.ordered := by
  simp [Stream.ordered, h.window, h.buffer]

theorem Stream.ordered.failures (h : st.ordered) : ∀ e ∈ st.window, e.failures ≤ 2 := by
  obtain ⟨-, -, -, -, -, -, entries, -⟩ := h
  exact fun e he => (entries e he).2

theorem Stream.ordered.remaining (h : st.ordered) : ∀ b ∈ st.buffer, 1 ≤ b.remaining ∧ b.remaining ≤ b.duration := by
  obtain ⟨-, -, -, -, -, -, -, times, -⟩ := h
  exact times

/-- Window entries may change in everything but number and duration, their failures staying within 2. -/
theorem Stream.ordered.map (h : st.ordered) {f : WindowEntry → WindowEntry}
    (hf : ∀ e ∈ st.window, (f e).segment = e.segment ∧ (f e).duration = e.duration ∧ (f e).failures ≤ 2) :
    ({ st with window := st.window.map f } : Stream).ordered := by
  obtain ⟨ascend, short, buffer, between, within, buffered, entries, times⟩ := h
  refine ⟨List.pairwise_map.mpr (ascend.imp_of_mem fun {x y} hx hy lt => ?_), by simpa using short, buffer, ?_, ?_,
    buffered, ?_, times⟩
  · rw [(hf x hx).1, (hf y hy).1]; exact lt
  all_goals simp only [List.mem_map, forall_exists_index, and_imp, forall_apply_eq_imp_iff₂]
  · intro b hb e he; rw [(hf e he).1]; exact between b hb e he
  · intro e he; rw [(hf e he).1]; exact within e he
  · intro e he; rw [(hf e he).2.1]; exact ⟨(entries e he).1, (hf e he).2.2⟩

theorem Stream.ordered.changeEntry (h : st.ordered) (seg : Nat) {f : WindowEntry → WindowEntry}
    (hf : ∀ e ∈ st.window, e.segment = seg →
      (f e).segment = e.segment ∧ (f e).duration = e.duration ∧ (f e).failures ≤ 2) :
    ({ st with window := changeEntry seg f st.window } : Stream).ordered := by
  refine h.map fun e he => ?_
  split
  · exact hf e he (by assumption)
  · exact ⟨rfl, rfl, h.failures e he⟩

/-- Entries may leave the window. -/
theorem Stream.ordered.sublist (h : st.ordered) {w : List WindowEntry} (sub : w.Sublist st.window) :
    ({ st with window := w } : Stream).ordered := by
  obtain ⟨ascend, short, buffer, between, within, buffered, entries, times⟩ := h
  exact ⟨ascend.sublist sub, sub.length_le.trans short, buffer, fun b hb e he => between b hb e (sub.subset he),
    fun e he => within e (sub.subset he), buffered, fun e he => entries e (sub.subset he), times⟩

/-- The landed entries at the head of the window join the tail of the buffer queue (R71). -/
theorem Stream.ordered.moved (h : st.ordered) : st.moved.ordered := by
  obtain ⟨moved, stay, stays, window⟩ := exists_landed_append st.window
  obtain ⟨ascend, short, buffer, between, within, buffered, entries, times, full⟩ := h
  rw [Stream.moved_eq stays window]
  rw [window] at ascend short between within entries
  obtain ⟨first, second, across⟩ := List.pairwise_append.mp ascend
  have landed : ∀ m ∈ moved, landedEntry m ∈ moved.map landedEntry ++ stay := fun m hm =>
    List.mem_append_left _ (List.mem_map_of_mem hm)
  have fresh : ∀ m ∈ moved, 1 ≤ m.1.duration := fun m hm => (entries _ (landed m hm)).1
  have whole : ∀ x ∈ (st.afterMove moved stay).buffer.tail, x.remaining = x.duration := by
    intro x hx
    unfold Stream.afterMove at hx
    cases queue : st.buffer with
    | nil =>
      rw [queue, List.nil_append] at hx
      obtain ⟨m, -, rfl⟩ := List.mem_map.mp (List.mem_of_mem_tail hx)
      rfl
    | cons y ys =>
      rw [queue] at hx full
      rcases List.mem_append.mp hx with old | new
      · exact full x old
      · obtain ⟨m, -, rfl⟩ := List.mem_map.mp new
        rfl
  refine ⟨second, ?_, List.pairwise_append.mpr ⟨buffer, ?_, ?_⟩, ?_, fun e he => within e (List.mem_append_right _ he), ?_,
    fun e he => entries e (List.mem_append_right _ he), ?_, whole⟩
  · rw [List.length_append] at short; exact le_trans (Nat.le_add_left _ _) short
  · have numbers : moved.Pairwise fun a b => a.1.segment < b.1.segment :=
      (List.pairwise_map (f := landedEntry)).mp first
    exact List.pairwise_map.mpr numbers
  all_goals
    simp only [Stream.afterMove, List.mem_append, List.mem_map, or_imp, forall_and, forall_exists_index, and_imp,
      forall_apply_eq_imp_iff₂]
  · exact fun x hx m hm => between x hx (landedEntry m) (landed m hm)
  · exact ⟨fun x hx e he => between x hx e (List.mem_append_right _ he),
      fun m hm e he => across (landedEntry m) (List.mem_map_of_mem hm) e he⟩
  · exact ⟨buffered, fun m hm => within (landedEntry m) (landed m hm)⟩
  · exact ⟨⟨fun x hx => (times x hx).1, fresh⟩, fun x hx => (times x hx).2, fun m _ => le_refl _⟩

/-- The head entries of the buffer queue leave (R76, R90). -/
theorem Stream.ordered.restOf (h : st.ordered) {rest : List BufferEntry} (left : RestOf rest st.buffer) :
    ({ st with buffer := rest } : Stream).ordered := by
  obtain ⟨ascend, short, buffer, between, within, buffered, entries, times, full⟩ := h
  rcases left with rfl | ⟨gone, b, bs, left, queue, rfl, pos, le⟩
  · exact ⟨ascend, short, .nil, nofun, within, nofun, entries, nofun, nofun⟩
  have behind : ∀ x ∈ bs, x ∈ st.buffer.tail := fun x hx => by
    rw [queue]; cases gone <;> simp [hx]
  have here : ∀ x ∈ b :: bs, x ∈ st.buffer := fun x hx => by rw [queue]; exact List.mem_append_right _ hx
  have order := (List.pairwise_append.mp (queue ▸ buffer)).2.1
  refine ⟨ascend, short, ?_, ?_, within, ?_, entries, ?_, fun x hx => full x (behind x hx)⟩
  · rw [List.pairwise_cons] at order ⊢; exact order
  all_goals
    rw [List.forall_mem_cons]
  · exact ⟨between b (here b List.mem_cons_self), fun x hx => between x (here x (List.mem_cons_of_mem _ hx))⟩
  · exact ⟨buffered b (here b List.mem_cons_self), fun x hx => buffered x (here x (List.mem_cons_of_mem _ hx))⟩
  · exact ⟨⟨pos, le⟩, fun x hx => times x (here x (List.mem_cons_of_mem _ hx))⟩

end Sys2Proof.Machine
end

section
namespace Sys2Proof.Machine

/-! ### The entries of an APPEND (R34, R35) -/

theorem appendRanges_of_parseAppend {body : List Byte} {r : AppendReq} (h : parseAppend body = .ok r) :
    appendRanges r.entries = true := by
  unfold parseAppend at h
  split at h
  · cases h
  · split at h
    · split at h
      · cases h
      · obtain ⟨ok, rfl⟩ := Except.ok_of_ite h
        exact ok
    · cases h

theorem segments_ascend {es : List AppendEntry} (h : consecutive es = true) :
    es.Pairwise fun a b => a.segment < b.segment := by
  suffices es.IsChain fun a b => a.segment < b.segment by
    have trans : IsTrans AppendEntry fun a b => a.segment < b.segment := ⟨fun _ _ _ => lt_trans⟩
    exact List.isChain_iff_pairwise.mp this
  induction es with
  | nil => exact .nil
  | cons a es ih =>
    cases es with
    | nil => exact .singleton a
    | cons b es =>
      simp only [consecutive, Bool.and_eq_true, decide_eq_true_eq] at h
      exact .cons_cons (by omega) (ih h.2)

/-- What the checks of an APPEND establish (R35, R36). -/
structure Stream.Appendable (st : Stream) (es : List AppendEntry) : Prop where
  room : st.window.length + es.length ≤ 16
  notEnded : st.state ≠ .ended
  continues : ∀ last e, st.origin = some last → es.head? = some e → e.segment = last + 1
  ascend : es.Pairwise fun a b => a.segment < b.segment
  durations : ∀ e ∈ es, 1 ≤ e.duration
  some : es ≠ []

theorem State.appendable_of_checkAppend {s : State} {body : List Byte} {r : AppendReq} (h : s.checkAppend body = .ok r) :
    (s.stream r.slot).Appendable r.entries := by
  unfold State.checkAppend at h
  split at h
  · cases h
  · rename_i parsed
    dsimp only at h
    split at h
    · cases h
    rename_i fields
    split at h
    · cases h
    split at h
    · cases h
    rename_i right
    split at h
    · cases h
    split at h
    · cases h
    rename_i room
    cases h
    have ranges := appendRanges_of_parseAppend parsed
    simp only [appendRanges, Bool.and_eq_true, decide_eq_true_eq, List.all_eq_true] at ranges
    obtain ⟨⟨⟨count, entries⟩, consecutive⟩, -⟩ := ranges
    simp only [Stream.appendFields, Bool.not_eq_true', Bool.not_eq_false, Bool.and_eq_true] at fields
    refine ⟨by omega, fun ended => right (.inl ended), fun last e origin head => ?_, segments_ascend consecutive,
      fun e he => by have := entries e he; omega, fun none => ?_⟩
    · have continues := fields.2
      rw [origin, head] at continues
      exact beq_iff_eq.mp continues
    · rw [none] at count; exact absurd count.1 (by decide)

theorem Stream.Appendable.le_last {st : Stream} {es : List AppendEntry} (h : st.Appendable es) :
    ∃ l, es.getLast? = Option.some l ∧ ∀ e ∈ es, e.segment ≤ l.segment := by
  obtain ⟨l, last⟩ := Option.isSome_iff_exists.mp (List.getLast?_isSome.mpr h.some)
  refine ⟨l, last, fun e he => ?_⟩
  obtain ⟨init, rfl⟩ := List.getLast?_eq_some_iff.mp last
  rcases List.mem_append.mp he with before | here
  · exact le_of_lt ((List.pairwise_append.mp h.ascend).2.2 e before l (List.mem_singleton_self l))
  · rw [List.mem_singleton.mp here]

theorem Stream.Appendable.last_lt {st : Stream} {es : List AppendEntry} (h : st.Appendable es) {last : Nat}
    (origin : st.origin = Option.some last) : ∀ e ∈ es, last < e.segment := by
  obtain ⟨x, xs, rfl⟩ := List.exists_cons_of_ne_nil h.some
  have first := h.continues last x origin rfl
  have rest := (List.pairwise_cons.mp h.ascend).1
  intro e he
  rcases List.mem_cons.mp he with rfl | later
  · omega
  · have := rest e later; omega

/-- The entries of an APPEND join the window behind what it holds (R35, R37). -/
theorem Stream.ordered.appended {st : Stream} (h : st.ordered) {es : List AppendEntry} (ok : st.Appendable es) :
    (st.appended es).ordered := by
  obtain ⟨ascend, short, buffer, between, within, buffered, entries, times⟩ := h
  obtain ⟨l, last, le_last⟩ := ok.le_last
  have above : ∀ {k : Nat}, (∃ last ∈ st.origin, k ≤ last) → ∀ e ∈ es, k < e.segment := by
    rintro k ⟨last, origin, le⟩ e he
    exact lt_of_le_of_lt le (ok.last_lt origin e he)
  obtain ⟨first, mem⟩ : ∃ x, x ∈ es := List.exists_mem_of_ne_nil es ok.some
  have origin : (st.appended es).origin = some l.segment := by rw [Stream.appended, last]
  have old : ∀ {k : Nat}, (∃ last ∈ st.origin, k ≤ last) → ∃ last ∈ (st.appended es).origin, k ≤ last := fun held =>
    ⟨l.segment, origin, (le_of_lt (above held first mem)).trans (le_last first mem)⟩
  refine ⟨List.pairwise_append.mpr ⟨ascend, List.pairwise_map.mpr ok.ascend, ?_⟩, ?_, buffer, ?_, ?_,
    fun b hb => old (buffered b hb), ?_, times⟩
  · simp only [List.mem_map, forall_exists_index, and_imp, forall_apply_eq_imp_iff₂]
    exact fun x hx e he => above (within x hx) e he
  · rw [Stream.appended, List.length_append, List.length_map]; exact ok.room
  all_goals
    simp only [Stream.appended, List.mem_append, List.mem_map, or_imp, forall_and, forall_exists_index, and_imp,
      forall_apply_eq_imp_iff₂]
  · exact ⟨between, fun b hb e he => above (buffered b hb) e he⟩
  · exact ⟨fun e he => old (within e he), fun e he => ⟨l.segment, origin, le_last e he⟩⟩
  · exact ⟨⟨fun e he => (entries e he).1, ok.durations⟩, fun e he => (entries e he).2, fun _ _ => Nat.zero_le 2⟩

end Sys2Proof.Machine
end

section
namespace Sys2Proof.Machine

/-! ### What the shared operations make of a stream -/

variable (s : State) (n : Slot)

/-- The stream with its hold re-evaluated (R82). -/
def Stream.reheld (st : Stream) : Stream := { st with hold := st.holdEval }

/-- A change of the window or of the buffer queue re-evaluates the hold, and all else it does is quiet (R30, R71). -/
theorem State.windowChanged_reheld : (s.stream n).reheld.Quiet ((s.windowChanged n).stream n) := by
  have tested : ∀ (st : Stream) (now : Nat), st.Quiet (st.tested now) := fun st now => by
    unfold Stream.tested; split
    · exact ⟨rfl, rfl, rfl, rfl, rfl, rfl, .inr rfl⟩
    · exact .refl st
  rw [State.windowChanged_stream]
  have measured : (s.stream n).reheld.Quiet (s.stream n).measured := .of_bond rfl
  exact measured.trans (tested _ _)

theorem State.reevaluate_reheld : (s.stream n).reheld.Quiet ((s.reevaluate n).stream n) := by
  rw [State.reevaluate_stream]; exact .of_bond rfl

/-- The stream after a failure claim on the entry `e` (R40, R41, R73). -/
def Stream.failed (st : Stream) (e : WindowEntry) : Stream :=
  if e.failures < 2 then
    { st with window := changeEntry e.segment (fun x => { x.returned with failures := x.failures + 1 }) st.window }
  else
    ({ st with
       window := st.window.filter (fun x => x.segment != e.segment), finalKnown := st.finalKnown || e.last } : Stream).moved

/-- A failure claim on an entry of the window, but for quiet changes. -/
theorem State.failEntry_reheld {seg : Nat} {e : WindowEntry}
    (found : ((s.stream n).window.find? fun e => e.segment == seg) = some e) :
    ((s.stream n).failed e).reheld.Quiet ((s.failEntry n seg).stream n) := by
  have named : e.segment = seg := beq_iff_eq.mp (List.find?_some (p := fun e : WindowEntry => e.segment == seg) found)
  unfold State.failEntry
  rw [found]
  dsimp only
  rw [Stream.failed, named]
  split
  · refine Stream.Quiet.trans ?_ (State.windowChanged_reheld _ n)
    rw [State.stream_modStream_same]; exact .refl _
  · unfold State.skipEntry State.contiguousMove
    refine Stream.Quiet.trans ?_ (State.windowChanged_reheld _ n)
    rw [State.stream_modStream_same, State.stream_modStream_same, State.raise_stream, if_pos rfl,
      State.stream_modStream_same, named]
    exact .of_bond rfl

theorem State.failEntry_of_none {seg : Nat} (none : ((s.stream n).window.find? fun e => e.segment == seg) = none) :
    s.failEntry n seg = s := by
  unfold State.failEntry; rw [none]

/-- The end of a probe, won or lost, is quiet but for the mark that one is live. -/
theorem State.probeFailure_unprobed :
    ({ s.stream n with probeLive := false } : Stream).Quiet ((s.probeFailure n).stream n) := by
  have q := ((s.fall_quiet n (s.stream n).current).trans (State.raise_quiet _ n .probeFail)).streams n
  rw [State.probeFailure, State.stream_modStream_same]
  exact ⟨q.window, q.buffer, q.origin, q.finalKnown, rfl, q.hold, q.state⟩

theorem State.probeSuccess_unprobed (r : Nat) :
    ({ s.stream n with probeLive := false } : Stream).Quiet ((s.probeSuccess n r).stream n) := by
  have begun : s.Quiet (s.modStream n fun st => { st with ceiling := max st.ceiling r, current := r }) :=
    s.modStream_quiet n fun _ => .of_bond (by rfl)
  have q := ((begun.trans (State.raiseIf_quiet _ n ((s.stream n).current != r) .rung)).trans
    (State.raise_quiet _ n .probeDone)).streams n
  unfold State.probeSuccess
  dsimp only
  rw [State.stream_modStream_same]
  exact ⟨q.window, q.buffer, q.origin, q.finalKnown, rfl, q.hold, q.state⟩

/-- The stream after the end of a record: no probe is live if it was the PROBE record. -/
def Stream.without (st : Stream) (r : Record) : Stream := { st with probeLive := st.probeLive && r.isNormal }

theorem Stream.without_of_normal (st : Stream) {r : Record} (normal : r.isNormal = true) : st.without r = st := by
  rw [Stream.without, normal, Bool.and_true]

theorem Stream.without_of_probe (st : Stream) {r : Record} (probe : r.isNormal = false) :
    st.without r = { st with probeLive := false } := by
  rw [Stream.without, probe, Bool.and_false]

/-- What is quiet before the end of a record is quiet behind it. -/
theorem Stream.Quiet.without {a b : Stream} (q : a.Quiet b) (r : Record) : (a.without r).Quiet (b.without r) :=
  ⟨q.window, q.buffer, q.origin, q.finalKnown, congrArg (· && r.isNormal) q.probeLive, q.hold, q.state⟩

theorem State.dropToWaiting_reheld (r : Record) (d : DropReason) :
    ((s.stream r.slot).returned r).reheld.Quiet ((s.dropToWaiting r d).stream r.slot) := by
  have returned : ((s.dropRecord r d).returnEntry r.slot r.segment).stream r.slot = (s.stream r.slot).returned r := by
    rw [State.returnEntry, State.stream_modStream_same, State.dropRecord_stream, Stream.returned]
    cases r.announcePending <;> simp
  exact returned ▸ State.windowChanged_reheld _ r.slot

theorem State.failProbe_reheld {r : Record} (probe : r.isNormal = false) (d : DropReason) :
    (((s.stream r.slot).returned r).reheld.without r).Quiet ((s.failProbe r d).stream r.slot) := by
  have dropped := (s.dropToWaiting_reheld r d).without r
  rw [Stream.without_of_probe _ probe] at dropped ⊢
  rw [Stream.without_of_probe _ probe] at dropped
  exact dropped.trans (State.probeFailure_unprobed _ r.slot)

/-- The stream whose entry has landed, the contiguous move made (R32, R71). -/
def Stream.landed (st : Stream) (r : Record) (bytes : Nat) : Stream :=
  ({ st with
     window := changeEntry r.segment (fun e => { e with state := .landedEarly r.rung bytes }) st.window } : Stream).moved

theorem State.landAct_reheld (r : Record) (bytes : Nat) :
    (((s.stream r.slot).landed r bytes).reheld.without r).Quiet ((s.landAct r bytes).stream r.slot) := by
  have moved := State.windowChanged_reheld (((((s.countBytes (bytes - r.reported)).freeRecord r.tag).landEntry r.slot
    r.segment r.rung bytes).modStream r.slot Stream.moved)) r.slot
  rw [State.stream_modStream_same, State.landEntry, State.stream_modStream_same] at moved
  have ended := moved.trans ((State.modStream_quiet _ r.slot (f := fun st => { st with startLimit := false })
    fun _ => .of_bond rfl).streams r.slot)
  unfold State.landAct State.landingReported State.contiguousMove State.landEntry
  dsimp only
  split
  · rename_i normal
    rw [Stream.without_of_normal _ normal]; exact ended
  · rename_i probe
    have lost := ended.without r
    rw [Stream.without_of_probe _ (by simpa using probe), Stream.without_of_probe _ (by simpa using probe)] at lost
    rw [Stream.without_of_probe _ (by simpa using probe)]
    exact lost.trans (State.probeSuccess_unprobed _ r.slot _)

/-- The end of a PROBE record that the host reports broken (R63). -/
theorem State.breakAct_reheld_of_probe {r : Record} (probe : r.isNormal = false) :
    (({ s.stream r.slot with
        window := changeEntry r.segment WindowEntry.returned (s.stream r.slot).window } : Stream).reheld.without r).Quiet
      ((s.breakAct r).stream r.slot) := by
  have changed := (State.windowChanged_reheld ((s.freeRecord r.tag).returnEntry r.slot r.segment) r.slot).without r
  rw [State.returnEntry, State.stream_modStream_same, Stream.without_of_probe _ probe, Stream.without_of_probe _ probe] at changed
  rw [Stream.without_of_probe _ probe]
  unfold State.breakAct State.returnEntry
  dsimp only
  rw [probe]
  exact changed.trans (State.probeFailure_unprobed _ r.slot)

theorem State.breakAct_of_normal {r : Record} (normal : r.isNormal = true) :
    s.breakAct r = (s.freeRecord r.tag).failEntry r.slot r.segment := if_pos normal

/-! ### Which other streams they leave alone -/

theorem State.landAct_elsewhere (r : Record) (bytes : Nat) : s.SameElsewhere r.slot (s.landAct r bytes) := by
  have moved : s.SameElsewhere r.slot ((((s.countBytes (bytes - r.reported)).freeRecord r.tag).landEntry r.slot r.segment
      r.rung bytes).contiguousMove r.slot) :=
    State.SameElsewhere.trans (t := ((s.countBytes (bytes - r.reported)).freeRecord r.tag).landEntry r.slot r.segment r.rung
      bytes) (State.modStream_elsewhere _ r.slot _) (State.contiguousMove_elsewhere _ r.slot)
  unfold State.landAct State.landingReported
  dsimp only
  split
  · exact moved.trans (State.modStream_elsewhere _ _ _)
  · exact (moved.trans (State.modStream_elsewhere _ _ _)).trans (State.probeSuccess_elsewhere _ _ _)

theorem State.breakAct_elsewhere (r : Record) : s.SameElsewhere r.slot (s.breakAct r) := by
  unfold State.breakAct
  dsimp only
  split
  · exact State.failEntry_elsewhere (s.freeRecord r.tag) r.slot r.segment
  · exact ((State.modStream_elsewhere (s.freeRecord r.tag) r.slot _).trans (State.windowChanged_elsewhere _ _)).trans
      (State.probeFailure_elsewhere _ _)

end Sys2Proof.Machine
end

section
namespace Sys2Proof.Machine

/-! ### What a grant makes of a stream -/

variable {s t : State} {n : Slot}

theorem Stream.Quiet.granted {a b : Stream} (q : a.Quiet b) (seg rung : Nat) : (a.granted seg rung).Quiet (b.granted seg rung) :=
  ⟨congrArg (changeEntry seg _) q.window, q.buffer, q.origin, q.finalKnown, q.probeLive, q.hold, q.state⟩

/-- The stream after the decision of a normal grant (R140). -/
theorem State.takeDecision_stream (s : State) (n : Slot) (r : Nat) :
    ∃ flags, (s.takeDecision n r).stream n =
      { s.stream n with current := r, rescuePending := false, flags := flags } := by
  unfold State.takeDecision
  rw [State.raiseIf_stream, State.stream_modStream_same]
  split
  · exact ⟨_, rfl⟩
  · exact ⟨_, rfl⟩

theorem State.grantNormal_eq {e : WindowEntry} (target : (s.stream n).window.find? WindowEntry.isWaiting = some e) :
    s.grantNormal n =
      State.windowChanged
        { (s.takeDecision n (s.normalDecision n).2).makeRecord n e (s.normalDecision n).1 (s.normalDecision n).2 with
          arb := { ((s.takeDecision n (s.normalDecision n).2).makeRecord n e (s.normalDecision n).1
            (s.normalDecision n).2).arb with rotation := n } } n := by
  unfold State.grantNormal; rw [target]

theorem State.grantProbe_eq {e : WindowEntry} (target : s.probeTarget n = some e) :
    s.grantProbe n =
      State.windowChanged
        { (s.modStream n fun st => { st with probePending := false, probeLive := true }).makeRecord n e .probe
            ((s.stream n).current + 1) with
          arb := { ((s.modStream n fun st => { st with probePending := false, probeLive := true }).makeRecord n e .probe
            ((s.stream n).current + 1)).arb with probeRotation := n } } n := by
  unfold State.grantProbe; rw [target]

theorem State.grantNormal_reheld {e : WindowEntry} (target : (s.stream n).window.find? WindowEntry.isWaiting = some e) :
    ((s.stream n).granted e.segment (s.normalDecision n).2).reheld.Quiet ((s.grantNormal n).stream n) := by
  obtain ⟨flags, decided⟩ := s.takeDecision_stream n (s.normalDecision n).2
  rw [State.grantNormal_eq target]
  refine Stream.Quiet.trans ?_ (State.windowChanged_reheld _ n)
  have made := State.makeRecord_stream (s.takeDecision n (s.normalDecision n).2) n e (s.normalDecision n).1
    (s.normalDecision n).2 n
  rw [if_pos rfl, decided] at made
  have bond := congrArg (fun st : Stream => st.reheld.bond) made
  exact .of_bond bond

theorem State.grantProbe_reheld {e : WindowEntry} (target : s.probeTarget n = some e) :
    ({ (s.stream n).granted e.segment ((s.stream n).current + 1) with probeLive := true } : Stream).reheld.Quiet
      ((s.grantProbe n).stream n) := by
  rw [State.grantProbe_eq target]
  refine Stream.Quiet.trans ?_ (State.windowChanged_reheld _ n)
  have made := State.makeRecord_stream (s.modStream n fun st => { st with probePending := false, probeLive := true }) n e
    .probe ((s.stream n).current + 1) n
  rw [if_pos rfl, State.stream_modStream_same] at made
  have bond := congrArg (fun st : Stream => st.reheld.bond) made
  exact .of_bond bond

theorem State.grantNormal_elsewhere (s : State) (n : Slot) : s.SameElsewhere n (s.grantNormal n) := by
  unfold State.grantNormal
  split
  · exact .refl n s
  · refine State.SameElsewhere.trans ?_ (State.windowChanged_elsewhere _ n)
    exact (s.takeDecision_elsewhere n _).trans fun m other => by
      exact (State.makeRecord_stream _ n _ _ _ m).trans (if_neg (Ne.symm other))

theorem State.grantProbe_elsewhere (s : State) (n : Slot) : s.SameElsewhere n (s.grantProbe n) := by
  unfold State.grantProbe
  split
  · exact .refl n s
  · refine State.SameElsewhere.trans ?_ (State.windowChanged_elsewhere _ n)
    exact (s.modStream_elsewhere n _).trans fun m other => by
      exact (State.makeRecord_stream _ n _ _ _ m).trans (if_neg (Ne.symm other))

/-- Of the streams, the end of a record changes the previous grant memory alone (R51, R58). -/
theorem State.dropRecord_streams_quiet (s : State) (r : Record) (d : DropReason) (m : Slot) :
    (s.stream m).Quiet ((s.dropRecord r d).stream m) := by
  rw [State.dropRecord_stream]
  split
  · exact .of_bond rfl
  · exact .refl _

end Sys2Proof.Machine
end

section
namespace Sys2Proof.Machine

/-! ## Windows and buffer queues stay in order (O56) -/

variable {st : Stream}

theorem Stream.ordered.reheld (h : st.ordered) : st.reheld.ordered := h.congr rfl rfl rfl

theorem Stream.ordered.without (h : st.ordered) (r : Record) : (st.without r).ordered := h.congr rfl rfl rfl

/-- In a window in order a number names one entry. -/
theorem Stream.ordered.eq_of_segment (h : st.ordered) {a b : WindowEntry} (ha : a ∈ st.window) (hb : b ∈ st.window)
    (same : a.segment = b.segment) : a = b := by
  have distinct : (st.window.map WindowEntry.segment).Nodup :=
    (List.pairwise_map.mpr h.1).imp fun lt => ne_of_lt lt
  exact List.inj_on_of_nodup_map distinct ha hb same

/-- An entry may take another state. -/
theorem Stream.ordered.changeState (h : st.ordered) (seg : Nat) (x : WindowEntry → EntryState) :
    ({ st with window := Machine.changeEntry seg (fun e => { e with state := x e }) st.window } : Stream).ordered :=
  h.changeEntry seg fun e he _ => ⟨rfl, rfl, h.failures e he⟩

theorem Stream.ordered.returned (h : st.ordered) (r : Record) : (st.returned r).ordered :=
  (h.changeState r.segment fun _ => .waiting).congr rfl rfl rfl

theorem Stream.ordered.granted (h : st.ordered) (seg rung : Nat) : (st.granted seg rung).ordered :=
  (h.changeState seg fun _ => .inFlight rung).congr rfl rfl rfl

theorem Stream.ordered.landed (h : st.ordered) (r : Record) (bytes : Nat) : (st.landed r bytes).ordered :=
  (h.changeState r.segment fun _ => .landedEarly r.rung bytes).moved

theorem Stream.ordered.failed (h : st.ordered) {e : WindowEntry} (mem : e ∈ st.window) : (st.failed e).ordered := by
  unfold Stream.failed
  split
  · rename_i few
    refine h.changeEntry e.segment fun x hx same => ⟨rfl, rfl, ?_⟩
    rw [h.eq_of_segment hx mem same]; exact few
  · exact ((h.sublist List.filter_sublist).congr rfl rfl rfl).moved

variable {s t : State} {n : Slot}

/-- A change of one stream keeps the windows in order where it keeps that stream's. -/
theorem State.windowsOrdered.of_slot (h : s.windowsOrdered) (elsewhere : s.SameElsewhere n t) (own : (t.stream n).ordered) :
    t.windowsOrdered := fun m => by
  by_cases here : m = n
  · exact here ▸ own
  · rw [elsewhere m here]; exact h m

theorem State.windowsOrdered.windowChanged (h : s.windowsOrdered) (n : Slot) : (s.windowChanged n).windowsOrdered :=
  h.of_slot (s.windowChanged_elsewhere n) ((h n).reheld.quiet (s.windowChanged_reheld n))

theorem State.windowsOrdered.modStream (h : s.windowsOrdered) {f : Stream → Stream} (own : (f (s.stream n)).ordered) :
    (s.modStream n f).windowsOrdered :=
  h.of_slot (s.modStream_elsewhere n f) (by rw [State.stream_modStream_same]; exact own)

theorem State.windowsOrdered.failEntry (h : s.windowsOrdered) (n : Slot) (seg : Nat) : (s.failEntry n seg).windowsOrdered := by
  cases found : (s.stream n).window.find? fun e => e.segment == seg with
  | none => rw [s.failEntry_of_none n found]; exact h
  | some e =>
    exact h.of_slot (s.failEntry_elsewhere n seg)
      (((h n).failed (List.mem_of_find?_eq_some found)).reheld.quiet (s.failEntry_reheld n found))

theorem State.windowsOrdered.dropToWaiting (h : s.windowsOrdered) (r : Record) (d : DropReason) :
    (s.dropToWaiting r d).windowsOrdered :=
  h.of_slot (s.dropToWaiting_elsewhere r d) (((h r.slot).returned r).reheld.quiet (s.dropToWaiting_reheld r d))

theorem State.windowsOrdered.failProbes (d : DropReason) (rs : List Record) (probes : ∀ r ∈ rs, r.isNormal = false) :
    ∀ {s : State}, s.windowsOrdered → (rs.foldl (fun s r => s.failProbe r d) s).windowsOrdered := by
  induction rs with
  | nil => exact id
  | cons r rs ih =>
    intro s h
    have first : (s.failProbe r d).windowsOrdered :=
      h.of_slot (s.failProbe_elsewhere r d)
        ((((h r.slot).returned r).reheld.without r).quiet (s.failProbe_reheld (probes r List.mem_cons_self) d))
    exact ih (fun x hx => probes x (List.mem_cons_of_mem r hx)) first

theorem State.windowsOrdered.breakAct (h : s.windowsOrdered) (r : Record) : (s.breakAct r).windowsOrdered := by
  cases normal : r.isNormal with
  | true =>
    rw [s.breakAct_of_normal normal]
    exact State.windowsOrdered.failEntry (s := s.freeRecord r.tag) h r.slot r.segment
  | false =>
    exact h.of_slot (s.breakAct_elsewhere r)
      ((((h r.slot).changeState r.segment fun _ => .waiting).reheld.without r).quiet (s.breakAct_reheld_of_probe normal))

theorem State.windowsOrdered.dropRecord (h : s.windowsOrdered) (r : Record) (d : DropReason) :
    (s.dropRecord r d).windowsOrdered := fun m => (h m).quiet (s.dropRecord_streams_quiet r d m)

theorem State.windowsOrdered.grantNormal (h : s.windowsOrdered) (n : Slot) : (s.grantNormal n).windowsOrdered := by
  cases target : (s.stream n).window.find? WindowEntry.isWaiting with
  | none => unfold State.grantNormal; rw [target]; exact h
  | some e =>
    exact h.of_slot (s.grantNormal_elsewhere n) (((h n).granted _ _).reheld.quiet (State.grantNormal_reheld target))

theorem State.windowsOrdered.grantProbe (h : s.windowsOrdered) (n : Slot) : (s.grantProbe n).windowsOrdered := by
  cases target : s.probeTarget n with
  | none => unfold State.grantProbe; rw [target]; exact h
  | some e =>
    refine h.of_slot (s.grantProbe_elsewhere n) (Stream.ordered.quiet ?_ (State.grantProbe_reheld target))
    exact ((h n).granted e.segment ((s.stream n).current + 1)).congr rfl rfl rfl

/-- Every act keeps windows and buffer queues in order. -/
theorem State.Act.ordered (act : s.Act t) (h : s.windowsOrdered) : t.windowsOrdered := by
  cases act with
  | quiet q => exact fun m => (h m).quiet (q.streams m)
  | limit _ _ _ streams => exact fun m => (h m).quiet (streams m)
  | report => exact h
  | grantNormal n => exact h.grantNormal n
  | grantProbe n => exact h.grantProbe n
  | rescue r d => exact h.dropToWaiting r d
  | failProbes rs d _ probes => exact .failProbes d rs probes h
  | land r bytes =>
    exact h.of_slot (s.landAct_elsewhere r bytes) ((((h r.slot).landed r bytes).reheld.without r).quiet (s.landAct_reheld r bytes))
  | breakOff r => exact h.breakAct r
  | abandon r d => exact (h.dropRecord r d).failEntry r.slot r.segment
  | append body r passed => exact (h.modStream ((h r.slot).appended (State.appendable_of_checkAppend passed))).windowChanged r.slot
  | position n seg off bs found =>
    exact (h.modStream (((h n).restOf (resync_restOf found)).congr rfl rfl rfl)).windowChanged n
  | drain n =>
    have drained : (s.modStream n Stream.drained).windowsOrdered :=
      h.modStream (((h n).restOf (drainQueue_restOf (h n).remaining _)).congr rfl rfl rfl)
    exact drained.of_slot (State.reevaluate_elsewhere _ n) ((drained n).reheld.quiet (State.reevaluate_reheld _ n))
  | finish n => exact h.modStream ((h n).congr rfl rfl rfl)
  | vacate n d dropped empty => exact h.of_slot dropped.elsewhere empty.ordered
  | fresh n st _ empty => exact h.modStream (f := fun _ => st) empty.ordered
  | unprobed n f _ quiet =>
    have unprobed : ({ s.stream n with probeLive := false } : Stream).ordered := (h n).congr rfl rfl rfl
    exact h.modStream (unprobed.quiet quiet)
  | closed _ _ _ empty => exact fun m => (empty m).ordered

end Sys2Proof.Machine

open Sys2Proof Sys2Proof.Machine

/-- Settles O56: every command is a chain of acts, and every act keeps windows and buffer queues in order. -/
theorem everyStepKeepsWindowsOrdered : Obligations.EveryStepKeepsWindowsOrdered :=
  fun _ _ h run => (step_acts run).keeps (fun _ _ => State.Act.ordered) h

end

section
namespace Sys2Proof.Machine

/-! ## Live records and IN_FLIGHT entries in step (O57) -/

/-- What `recordsAgree` and `fillsBounded` ask of one stream, `M` telling its live records. -/
structure Stream.Linked (M : Record → Prop) (st : Stream) : Prop where
  active : ∀ r, M r → st.active = true
  entry : ∀ r, M r → ∃ e ∈ st.window, e.segment = r.segment ∧ e.state = .inFlight r.rung
  claimed : ∀ e ∈ st.window, e.isInFlight = true → ∃ r, M r ∧ r.segment = e.segment
  distinct : ∀ a b, M a → M b → a.segment = b.segment → a = b
  probe : st.probeLive = true ↔ ∃ r, M r ∧ r.isNormal = false
  idle : st.state = .idle → st.buffer = [] ∧ st.finalKnown = false
  ended : st.state = .ended → st.window = []
  count : st.fillCount ≤ 24
  full : st.fillCount = 24 → st.hold = true

/-- The records of one slot. -/
def State.liveIn (s : State) (n : Slot) (r : Record) : Prop := r ∈ s.pool.records ∧ r.slot = n

/-- The sound states without what O56 and the stream controller's invariant say. -/
def State.InStep (s : State) : Prop := s.poolSound ∧ ∀ n, (s.stream n).Linked (s.liveIn n)

/-- `InStep` is what the obligation asks of pool, records and fills, told stream by stream. -/
theorem State.inStep_iff {s : State} : s.InStep ↔ s.poolSound ∧ s.recordsAgree ∧ s.fillsBounded := by
  unfold State.InStep State.recordsAgree State.fillsBounded
  refine and_congr_right fun pool => ?_
  simp only [← Stream.fillCount_eq]
  have nodup : s.pool.records.Nodup := pool.1.of_map
  constructor
  · intro linked
    refine ⟨⟨fun r hr => ⟨(linked r.slot).active r ⟨hr, rfl⟩, (linked r.slot).entry r ⟨hr, rfl⟩⟩,
      fun n e he flying => ?_, nodup.pairwise_of_forall_ne fun a ha b hb differ => ?_, fun n => ?_, fun n => (linked n).idle,
      fun n => (linked n).ended⟩, fun n => ⟨(linked n).count, (linked n).full⟩⟩
    · obtain ⟨r, ⟨hr, slot⟩, same⟩ := (linked n).claimed e he flying
      exact ⟨r, hr, slot, same⟩
    · by_contra same
      rw [not_or, not_not, not_not] at same
      exact differ ((linked b.slot).distinct a b ⟨ha, same.1⟩ ⟨hb, rfl⟩ same.2)
    · rw [(linked n).probe]; simp only [State.liveIn, and_assoc]
  · rintro ⟨⟨live, claimed, distinct, probe, idle, ended⟩, fills⟩ n
    have symm : Std.Symm fun a b : Record => a.slot ≠ b.slot ∨ a.segment ≠ b.segment :=
      ⟨fun _ _ => Or.imp Ne.symm Ne.symm⟩
    have apart : ∀ a ∈ s.pool.records, ∀ b ∈ s.pool.records, a ≠ b → a.slot ≠ b.slot ∨ a.segment ≠ b.segment :=
      fun a ha b hb => distinct.forall ha hb
    refine ⟨fun r hr => hr.2 ▸ (live r hr.1).1, fun r hr => hr.2 ▸ (live r hr.1).2, fun e he flying => ?_,
      fun a b ha hb same => ?_, ?_, idle n, ended n, (fills n).1, (fills n).2⟩
    · obtain ⟨r, hr, slot, same⟩ := claimed n e he flying
      exact ⟨r, ⟨hr, slot⟩, same⟩
    · by_contra differ
      rcases apart a ha.1 b hb.1 differ with slots | segments
      · exact slots (ha.2.trans hb.2.symm)
      · exact segments same
    · rw [probe n]; simp only [State.liveIn, and_assoc]

section Stream

variable {M : Record → Prop} {a b st : Stream}

theorem Stream.fillCount_congr (window : b.window = a.window) (buffer : b.buffer = a.buffer) : b.fillCount = a.fillCount := by
  unfold Stream.fillCount; rw [window, buffer]

theorem Stream.not_active_of_idle_or_ended (h : st.state = .idle ∨ st.state = .ended) : st.active = false := by
  unfold Stream.active
  rcases h with h | h <;> rw [h]

/-- A quiet change keeps a stream in step with its records. -/
theorem Stream.Linked.quiet (h : a.Linked M) (q : a.Quiet b) : b.Linked M where
  active r hr := q.active (h.active r hr)
  entry := by rw [q.window]; exact h.entry
  claimed := by rw [q.window]; exact h.claimed
  distinct := h.distinct
  probe := by rw [q.probeLive]; exact h.probe
  idle idle := by
    rcases q.state with same | active
    · rw [q.buffer, q.finalKnown]; exact h.idle (same ▸ idle)
    · rw [Stream.not_active_of_idle_or_ended (.inl idle)] at active; cases active
  ended ended := by
    rcases q.state with same | active
    · rw [q.window]; exact h.ended (same ▸ ended)
    · rw [Stream.not_active_of_idle_or_ended (.inr ended)] at active; cases active
  count := by rw [Stream.fillCount_congr q.window q.buffer]; exact h.count
  full := by rw [Stream.fillCount_congr q.window q.buffer, q.hold]; exact h.full

theorem Stream.holdEval_of_full (full : 24 ≤ st.fillCount) : st.holdEval = true := if_pos (.inr full)

/-- A re-evaluation keeps it, and needs nothing to be known of the hold. -/
theorem Stream.Linked.reheld (h : ({ st with hold := true } : Stream).Linked M) : st.reheld.Linked M :=
  ⟨h.active, h.entry, h.claimed, h.distinct, h.probe, h.idle, h.ended, h.count,
    fun full => Stream.holdEval_of_full (ge_of_eq full)⟩

/-- A vacant stream is in step with no records. -/
theorem Stream.Vacant.linked (h : st.Vacant) (none : ∀ r, ¬ M r) : st.Linked M where
  active r hr := absurd hr (none r)
  entry r hr := absurd hr (none r)
  claimed := by rw [h.window]; exact nofun
  distinct a _ ha := absurd ha (none a)
  probe := by rw [h.probeLive]; exact ⟨nofun, fun ⟨r, hr, _⟩ => absurd hr (none r)⟩
  idle _ := ⟨h.buffer, h.finalKnown⟩
  ended _ := h.window
  count := by simp [Stream.fillCount, h.window, h.buffer]
  full := by simp [Stream.fillCount, h.window, h.buffer]

/-- A stream that is not active has no records. -/
theorem Stream.Linked.none_of_inactive (h : st.Linked M) (inactive : st.active = false) (r : Record) : ¬ M r := fun hr =>
  Bool.false_ne_true (inactive.symm.trans (h.active r hr))

/-- Buffer entries may leave, and entries that are not IN_FLIGHT may join the window, while the fill does not grow. -/
theorem Stream.Linked.refilled (h : st.Linked M) {w : List WindowEntry} {bs : List BufferEntry}
    (kept : ∀ e ∈ st.window, e.isInFlight = true → e ∈ w) (only : ∀ e ∈ w, e.isInFlight = true → e ∈ st.window)
    (idle : st.buffer = [] → bs = []) (ended : st.state = .ended → w = [])
    (fill : ({ st with window := w, buffer := bs } : Stream).fillCount ≤ st.fillCount) :
    ({ st with window := w, buffer := bs, hold := true } : Stream).Linked M where
  active := h.active
  entry r hr := by
    obtain ⟨e, he, same, flying⟩ := h.entry r hr
    exact ⟨e, kept e he (by rw [WindowEntry.isInFlight, flying]), same, flying⟩
  claimed e he flying := h.claimed e (only e he flying) flying
  distinct := h.distinct
  probe := h.probe
  idle := fun isIdle => ⟨idle (h.idle isIdle).1, (h.idle isIdle).2⟩
  ended := ended
  count := fill.trans h.count
  full _ := rfl

end Stream

end Sys2Proof.Machine
end

section
namespace Sys2Proof.Machine

/-! ### A record ends: its entry is IN_FLIGHT no more -/

variable {M : Record → Prop} {a b c st : Stream} {seg : Nat}

/-- From `a` to `b` the IN_FLIGHT entry of a segment has ended, every other IN_FLIGHT entry stays, and the fill does not
grow. -/
structure Stream.Frees (seg : Nat) (a b : Stream) : Prop where
  state : b.state = a.state
  probeLive : b.probeLive = a.probeLive
  kept : ∀ e ∈ a.window, e.isInFlight = true → e.segment ≠ seg → e ∈ b.window
  only : ∀ e ∈ b.window, e.isInFlight = true → e ∈ a.window ∧ e.segment ≠ seg
  fill : b.fillCount ≤ a.fillCount

theorem Stream.Frees.congr (h : a.Frees seg b) (state : c.state = b.state) (probeLive : c.probeLive = b.probeLive)
    (window : c.window = b.window) (buffer : c.buffer = b.buffer) : a.Frees seg c :=
  ⟨state.trans h.state, probeLive.trans h.probeLive, window ▸ h.kept, window ▸ h.only,
    (Stream.fillCount_congr window buffer).trans_le h.fill⟩

/-- The entry takes a state that is not IN_FLIGHT. -/
theorem Stream.frees_changeEntry {f : WindowEntry → WindowEntry} (ended : ∀ e, (f e).isInFlight = false)
    (filled : ∀ e ∈ st.window, e.segment = seg → e.isWaiting = false) :
    st.Frees seg { st with window := changeEntry seg f st.window } where
  state := rfl
  probeLive := rfl
  kept _ he _ other := List.mem_map.mpr ⟨_, he, if_neg other⟩
  only e he flying := by
    obtain ⟨x, hx, rfl⟩ := List.mem_map.mp he
    split at flying
    · rw [ended] at flying; cases flying
    · rename_i other
      rw [if_neg other]; exact ⟨hx, other⟩
  fill := by
    have filter : (changeEntry seg f st.window).countP (fun e => !e.isWaiting) ≤ st.window.countP fun e => !e.isWaiting := by
      rw [changeEntry, List.countP_map]
      refine List.countP_mono_left fun e he waits => ?_
      by_cases same : e.segment = seg
      · rw [filled e he same]; rfl
      · rwa [Function.comp_apply, if_neg same] at waits
    rw [List.countP_eq_length_filter, List.countP_eq_length_filter] at filter
    exact Nat.add_le_add_left filter _

/-- The entry leaves the window. -/
theorem Stream.frees_filter : st.Frees seg { st with window := st.window.filter fun e => e.segment != seg } where
  state := rfl
  probeLive := rfl
  kept _ he _ other := List.mem_filter.mpr ⟨he, bne_iff_ne.mpr other⟩
  only _ he _ := ⟨(List.mem_filter.mp he).1, bne_iff_ne.mp (List.mem_filter.mp he).2⟩
  fill := Nat.add_le_add_left (List.filter_sublist.filter _).length_le _

/-- The contiguous move takes landed entries from the window to the buffer queue, and no IN_FLIGHT entry (R71). -/
theorem Stream.Frees.moved (h : a.Frees seg b) : a.Frees seg b.moved := by
  obtain ⟨moved, stay, stays, window⟩ := exists_landed_append b.window
  have landed : ∀ e ∈ moved.map landedEntry, e.isInFlight = false ∧ e.isWaiting = false := fun e he => by
    obtain ⟨m, -, rfl⟩ := List.mem_map.mp he
    exact ⟨rfl, rfl⟩
  have fill : b.moved.fillCount = b.fillCount := by
    have all : (moved.map landedEntry).filter (fun e => !e.isWaiting) = moved.map landedEntry :=
      List.filter_eq_self.mpr fun e he => by rw [(landed e he).2]; rfl
    rw [Stream.moved_eq stays window]
    unfold Stream.fillCount
    rw [window, List.filter_append, all]
    simp only [Stream.afterMove, List.length_append, List.length_map, Nat.add_assoc]
  refine ⟨?_, ?_, fun e he flying other => ?_, fun e he flying => ?_, fill.trans_le h.fill⟩
  all_goals rw [Stream.moved_eq stays window] at *
  · exact h.state
  · exact h.probeLive
  · have split := h.kept e he flying other
    rw [window] at split
    rcases List.mem_append.mp split with gone | here
    · rw [(landed e gone).1] at flying; cases flying
    · exact here
  · exact h.only e (window ▸ List.mem_append_right _ he) flying

/-- The stream whose record has ended is in step with the records that are left. -/
theorem Stream.Linked.release (h : st.Linked M) {r : Record} (live : M r)
    (single : ∀ x, M x → x.isNormal = false → r.isNormal = false → x = r) (frees : st.Frees r.segment b) :
    (b.reheld.without r).Linked fun x => M x ∧ x ≠ r where
  active x hx := (Stream.active_congr frees.state).trans (h.active x hx.1)
  entry x hx := by
    obtain ⟨e, he, same, flying⟩ := h.entry x hx.1
    have other : e.segment ≠ r.segment := fun clash => hx.2 (h.distinct x r hx.1 live (same ▸ clash))
    exact ⟨e, frees.kept e he (by rw [WindowEntry.isInFlight, flying]) other, same, flying⟩
  claimed e he flying := by
    obtain ⟨mem, other⟩ := frees.only e he flying
    obtain ⟨x, hx, same⟩ := h.claimed e mem flying
    exact ⟨x, ⟨hx, fun clash => other (clash ▸ same.symm)⟩, same⟩
  distinct x y hx hy := h.distinct x y hx.1 hy.1
  probe := by
    have before : b.reheld.probeLive = true ↔ ∃ x, M x ∧ x.isNormal = false := by
      rw [← h.probe]; exact Bool.eq_iff_iff.mp frees.probeLive
    unfold Stream.without
    rw [Bool.and_eq_true, before]
    constructor
    · rintro ⟨⟨x, hx, probe⟩, normal⟩
      exact ⟨x, ⟨hx, fun same => by rw [same, normal] at probe; cases probe⟩, probe⟩
    · rintro ⟨x, ⟨hx, other⟩, probe⟩
      refine ⟨⟨x, hx, probe⟩, ?_⟩
      by_contra isProbe
      exact other (single x hx probe (Bool.eq_false_iff.mpr isProbe))
  idle idle := by
    have inactive := Stream.not_active_of_idle_or_ended (st := st) (.inl (frees.state ▸ idle))
    exact absurd live (h.none_of_inactive inactive r)
  ended ended := by
    have inactive := Stream.not_active_of_idle_or_ended (st := st) (.inr (frees.state ▸ ended))
    exact absurd live (h.none_of_inactive inactive r)
  count := frees.fill.trans h.count
  full full := Stream.holdEval_of_full (ge_of_eq full)

/-! ### A record is made: its entry becomes IN_FLIGHT -/

/-- A window in which a number stands once changes in that place alone. -/
theorem changeEntry_split {as bs : List WindowEntry} {e : WindowEntry} (f : WindowEntry → WindowEntry)
    (before : ∀ x ∈ as, x.segment ≠ e.segment) (behind : ∀ x ∈ bs, x.segment ≠ e.segment) :
    changeEntry e.segment f (as ++ e :: bs) = as ++ f e :: bs := by
  have unchanged : ∀ xs : List WindowEntry, (∀ x ∈ xs, x.segment ≠ e.segment) →
      xs.map (fun x => if x.segment = e.segment then f x else x) = xs := fun xs other => by
    conv_rhs => rw [← List.map_id xs]
    exact List.map_congr_left fun x hx => if_neg (other x hx)
  rw [changeEntry, List.map_append, List.map_cons, unchanged as before, unchanged bs behind, if_pos rfl]

/-- Around an entry of a window in order stand entries of other numbers. -/
theorem Stream.ordered.split (h : st.ordered) {e : WindowEntry} (mem : e ∈ st.window) :
    ∃ as bs, st.window = as ++ e :: bs ∧ (∀ x ∈ as, x.segment ≠ e.segment) ∧ ∀ x ∈ bs, x.segment ≠ e.segment := by
  obtain ⟨as, bs, window⟩ := List.append_of_mem mem
  obtain ⟨-, behind, before⟩ := List.pairwise_append.mp (window ▸ h.1)
  exact ⟨as, bs, window, fun x hx => ne_of_lt (before x hx e List.mem_cons_self),
    fun x hx => ne_of_gt ((List.pairwise_cons.mp behind).1 x hx)⟩

/-- The stream that a record is made for is in step with the records and the new one. -/
theorem Stream.Linked.grant (h : st.Linked M) (ord : st.ordered) {e : WindowEntry} (mem : e ∈ st.window)
    (waits : e.isWaiting = true) (active : st.active = true) (open_ : st.hold = false) {r : Record}
    (target : r.segment = e.segment) {live : Bool} (probe : live = (st.probeLive || !r.isNormal)) :
    ({ st.granted e.segment r.rung with probeLive := live } : Stream).reheld.Linked fun x => M x ∨ x = r := by
  obtain ⟨as, bs, window, before, behind⟩ := ord.split mem
  have granted : changeEntry e.segment (fun e => { e with state := .inFlight r.rung }) st.window =
      as ++ { e with state := .inFlight r.rung } :: bs := by rw [window, changeEntry_split _ before behind]
  have stays : ∀ x : WindowEntry, x ∈ st.window → x ≠ e → x ∈ as ++ { e with state := .inFlight r.rung } :: bs := by
    intro x hx other
    rw [window, List.mem_append, List.mem_cons] at hx
    rw [List.mem_append, List.mem_cons]
    exact hx.imp_right fun hx => .inr (hx.resolve_left other)
  have idle_or_ended : ∀ {p : Prop}, (st.state = .idle ∨ st.state = .ended) → p := fun no => by
    rw [Stream.not_active_of_idle_or_ended no] at active; cases active
  have few : st.fillCount ≤ 23 := by
    have := h.count
    have := h.full
    rcases Nat.lt_or_ge st.fillCount 24 with lt | ge
    · omega
    · rw [open_] at this; exact absurd (this (by omega)) Bool.false_ne_true
  have fill : (st.granted e.segment r.rung).fillCount = st.fillCount + 1 := by
    unfold Stream.fillCount Stream.granted
    dsimp only
    have flies : (!WindowEntry.isWaiting { e with state := .inFlight r.rung }) = true := rfl
    rw [granted, window, List.filter_append, List.filter_append,
      List.filter_cons_of_pos (p := fun e : WindowEntry => !e.isWaiting) flies,
      List.filter_cons_of_neg (by simp [waits])]
    simp only [List.length_append, List.length_cons, Nat.add_assoc]
  have apart : ∀ x, M x → x.segment ≠ e.segment := fun x hx same => by
    obtain ⟨y, hy, named, flying⟩ := h.entry x hx
    rw [ord.eq_of_segment hy mem (named.trans same)] at flying
    rw [WindowEntry.isWaiting, flying] at waits; cases waits
  refine ⟨fun _ _ => active, ?_, ?_, ?_, ?_, fun no => idle_or_ended (.inl no), fun no => idle_or_ended (.inr no),
    (fill.trans_le (by omega) : (st.granted e.segment r.rung).fillCount ≤ 24),
    fun full => Stream.holdEval_of_full (ge_of_eq full)⟩
  · dsimp only [Stream.reheld, Stream.granted]
    rw [granted]
    rintro x (hx | rfl)
    · obtain ⟨y, hy, named, flying⟩ := h.entry x hx
      exact ⟨y, stays y hy fun same => apart x hx (same ▸ named.symm), named, flying⟩
    · exact ⟨_, List.mem_append_right _ List.mem_cons_self, target.symm, rfl⟩
  · dsimp only [Stream.reheld, Stream.granted]
    rw [granted]
    intro x hx flying
    by_cases same : x = { e with state := .inFlight r.rung }
    · exact ⟨r, .inr rfl, by rw [same]; exact target⟩
    · rw [List.mem_append, List.mem_cons] at hx
      have old : x ∈ st.window := by
        rw [window, List.mem_append, List.mem_cons]
        exact hx.imp_right fun hx => .inr (hx.resolve_left same)
      obtain ⟨y, hy, named⟩ := h.claimed x old flying
      exact ⟨y, .inl hy, named⟩
  · rintro x y (hx | rfl) (hy | rfl) same
    · exact h.distinct x y hx hy same
    · exact absurd (same.trans target) (apart x hx)
    · exact absurd (same.symm.trans target) (apart y hy)
    · rfl
  · dsimp only [Stream.reheld, Stream.granted]
    rw [probe, Bool.or_eq_true, h.probe, Bool.not_eq_true']
    simp only [or_and_right, exists_or, exists_eq_left]

end Sys2Proof.Machine
end

section
namespace Sys2Proof.Machine

/-! ### The end of a record, state by state -/

variable {s t u : State} {n : Slot} {r : Record}

theorem State.liveIn_congr (records : t.pool.records = s.pool.records) (n : Slot) : t.liveIn n = s.liveIn n := by
  unfold State.liveIn; rw [records]

/-- The record `r` is freed, and of pool and slot limit nothing else changes (R46). -/
structure State.Freed (r : Record) (s t : State) : Prop where
  records : t.pool.records = s.pool.records.filter fun x => x.tag != r.tag
  nextTag : t.pool.nextTag = s.pool.nextTag
  slotLimit : t.arb.slotLimit = s.arb.slotLimit

theorem State.Freed.blocks (h : State.Freed r s t) (b : t.SameBlocks u) : State.Freed r s u :=
  ⟨(congrArg Pool.records b.pool).trans h.records, (congrArg Pool.nextTag b.pool).trans h.nextTag,
    b.slotLimit.trans h.slotLimit⟩

theorem State.freeRecord_freed (s : State) (r : Record) : State.Freed r s (s.freeRecord r.tag) := ⟨rfl, rfl, rfl⟩

theorem State.dropRecord_freed (s : State) (r : Record) (d : DropReason) : State.Freed r s (s.dropRecord r d) :=
  ⟨s.dropRecord_records r d, (s.dropRecord_nextTag r d).1, congrArg Arbiter.slotLimit (s.dropRecord_nextTag r d).2⟩

theorem State.dropToWaiting_freed (s : State) (r : Record) (d : DropReason) : State.Freed r s (s.dropToWaiting r d) :=
  (s.dropRecord_freed r d).blocks ((State.modStream_blocks _ _ _).trans (State.windowChanged_blocks _ _))

theorem State.failProbe_freed (s : State) (r : Record) (d : DropReason) : State.Freed r s (s.failProbe r d) :=
  (s.dropToWaiting_freed r d).blocks (State.probeFailure_blocks _ _)

theorem State.landAct_freed (s : State) (r : Record) (bytes : Nat) : State.Freed r s (s.landAct r bytes) := by
  have counted : State.Freed r s ((s.countBytes (bytes - r.reported)).freeRecord r.tag) := ⟨rfl, rfl, rfl⟩
  have moved : State.Freed r s ((((s.countBytes (bytes - r.reported)).freeRecord r.tag).landEntry r.slot r.segment r.rung
      bytes).contiguousMove r.slot) :=
    counted.blocks ((State.modStream_blocks _ _ _).trans (State.contiguousMove_blocks _ _))
  have started := moved.blocks (State.modStream_blocks _ r.slot fun st => { st with startLimit := false })
  unfold State.landAct State.landingReported
  dsimp only
  split
  · exact started
  · exact started.blocks (State.probeSuccess_blocks _ _ _)

theorem State.breakAct_freed (s : State) (r : Record) : State.Freed r s (s.breakAct r) := by
  unfold State.breakAct
  dsimp only
  split
  · exact (s.freeRecord_freed r).blocks (State.failEntry_blocks _ _ _)
  · exact (s.freeRecord_freed r).blocks
      (((State.modStream_blocks _ _ _).trans (State.windowChanged_blocks _ _)).trans (State.probeFailure_blocks _ _))

theorem State.poolSound.freed (h : s.poolSound) (f : State.Freed r s t) : t.poolSound := by
  have kept := h.sublist (List.filter_sublist (p := fun x : Record => x.tag != r.tag))
  unfold State.poolSound at kept ⊢
  rw [f.records, f.nextTag, f.slotLimit]
  exact kept

theorem State.Freed.mem_iff (h : State.Freed r s t) (pool : s.poolSound) (mem : r ∈ s.pool.records) (x : Record) :
    x ∈ t.pool.records ↔ x ∈ s.pool.records ∧ x ≠ r := by
  rw [h.records, List.mem_filter, bne_iff_ne]
  exact and_congr_right fun hx => not_congr ⟨pool.eq_of_tag hx mem, fun same => same ▸ rfl⟩

theorem State.poolSound.probe_unique (h : s.poolSound) {a b : Record} (ha : s.liveIn n a) (hb : s.liveIn n b)
    (pa : a.isNormal = false) (pb : b.isNormal = false) : a = b :=
  Option.some.inj ((h.probeRecord_eq n ha.1 ha.2 pa).symm.trans (h.probeRecord_eq n hb.1 hb.2 pb))

/-- The end of a record keeps records and windows in step. -/
theorem State.InStep.release (h : s.InStep) (mem : r ∈ s.pool.records) (freed : State.Freed r s t)
    (elsewhere : s.SameElsewhere r.slot t) {b : Stream} (frees : (s.stream r.slot).Frees r.segment b)
    (own : (b.reheld.without r).Quiet (t.stream r.slot)) : t.InStep := by
  obtain ⟨pool, linked⟩ := h
  refine ⟨pool.freed freed, fun m => ?_⟩
  have live : t.liveIn m = fun x => s.liveIn m x ∧ x ≠ r := by
    funext x
    unfold State.liveIn
    rw [freed.mem_iff pool mem, and_right_comm]
  rw [live]
  by_cases here : m = r.slot
  · subst here
    exact ((linked r.slot).release ⟨mem, rfl⟩ (fun x hx px pr => pool.probe_unique hx ⟨mem, rfl⟩ px pr) frees).quiet own
  · have all : (fun x => s.liveIn m x ∧ x ≠ r) = s.liveIn m := by
      funext x
      exact propext ⟨And.left, fun hx => ⟨hx, fun same => here (same ▸ hx.2.symm)⟩⟩
    rw [all, elsewhere m here]
    exact linked m

/-! #### The entry of a record -/

/-- The entry of a live record is not WAITING. -/
theorem State.InStep.filled (h : s.InStep) (ord : s.windowsOrdered) (mem : r ∈ s.pool.records) :
    ∀ e ∈ (s.stream r.slot).window, e.segment = r.segment → e.isWaiting = false := fun e he same => by
  obtain ⟨x, hx, named, flying⟩ := (h.2 r.slot).entry r ⟨mem, rfl⟩
  rw [(ord r.slot).eq_of_segment he hx (same.trans named.symm), WindowEntry.isWaiting, flying]

theorem State.InStep.frees_returned (h : s.InStep) (ord : s.windowsOrdered) (mem : r ∈ s.pool.records) :
    (s.stream r.slot).Frees r.segment
      { s.stream r.slot with window := changeEntry r.segment WindowEntry.returned (s.stream r.slot).window } :=
  Stream.frees_changeEntry (fun _ => rfl) (h.filled ord mem)

theorem State.InStep.frees_landed (h : s.InStep) (ord : s.windowsOrdered) (mem : r ∈ s.pool.records) (bytes : Nat) :
    (s.stream r.slot).Frees r.segment ((s.stream r.slot).landed r bytes) :=
  (Stream.frees_changeEntry (fun _ => rfl) (h.filled ord mem)).moved

theorem Stream.frees_failed {st : Stream} {e : WindowEntry}
    (filled : ∀ x ∈ st.window, x.segment = e.segment → x.isWaiting = false) : st.Frees e.segment (st.failed e) := by
  unfold Stream.failed
  split
  · exact Stream.frees_changeEntry (fun _ => rfl) filled
  · exact Stream.Frees.moved (b := { st with
      window := st.window.filter (fun x => x.segment != e.segment), finalKnown := st.finalKnown || e.last })
      (Stream.frees_filter.congr rfl rfl rfl rfl)

/-- The entry of a live record is found by its number. -/
theorem State.InStep.find?_entry (h : s.InStep) (mem : r ∈ s.pool.records) :
    ∃ e, ((s.stream r.slot).window.find? fun e => e.segment == r.segment) = some e ∧ e.segment = r.segment := by
  obtain ⟨x, hx, named, -⟩ := (h.2 r.slot).entry r ⟨mem, rfl⟩
  cases found : (s.stream r.slot).window.find? fun e => e.segment == r.segment with
  | none => exact absurd (beq_iff_eq.mpr named) (List.find?_eq_none.mp found x hx)
  | some e => exact ⟨e, rfl, beq_iff_eq.mp (List.find?_some (p := fun e : WindowEntry => e.segment == r.segment) found)⟩

/-! #### The acts that end a record -/

theorem State.InStep.dropToWaiting (h : s.InStep) (ord : s.windowsOrdered) (mem : r ∈ s.pool.records)
    (normal : r.isNormal = true) (d : DropReason) : (s.dropToWaiting r d).InStep := by
  refine h.release mem (s.dropToWaiting_freed r d) (s.dropToWaiting_elsewhere r d)
    (b := (s.stream r.slot).returned r) ((h.frees_returned ord mem).congr rfl rfl rfl rfl) ?_
  rw [Stream.without_of_normal _ normal]
  exact s.dropToWaiting_reheld r d

theorem State.InStep.failProbe (h : s.InStep) (ord : s.windowsOrdered) (mem : r ∈ s.pool.records)
    (probe : r.isNormal = false) (d : DropReason) : (s.failProbe r d).InStep :=
  h.release mem (s.failProbe_freed r d) (s.failProbe_elsewhere r d)
    (b := (s.stream r.slot).returned r) ((h.frees_returned ord mem).congr rfl rfl rfl rfl) (s.failProbe_reheld probe d)

theorem State.InStep.landAct (h : s.InStep) (ord : s.windowsOrdered) (mem : r ∈ s.pool.records) (bytes : Nat) :
    (s.landAct r bytes).InStep :=
  h.release mem (s.landAct_freed r bytes) (s.landAct_elsewhere r bytes) (h.frees_landed ord mem bytes)
    (s.landAct_reheld r bytes)

/-- A failure claim on the entry of a NORMAL or REFETCH record that has just been freed (R63, R64). -/
theorem State.InStep.failEntry_of_freed (h : s.InStep) (ord : s.windowsOrdered) (mem : r ∈ s.pool.records)
    (normal : r.isNormal = true) (freed : State.Freed r s t) (elsewhere : s.SameElsewhere r.slot t)
    (own : ∃ p, t.stream r.slot = { s.stream r.slot with prevGrant := p }) : (t.failEntry r.slot r.segment).InStep := by
  obtain ⟨p, own⟩ := own
  obtain ⟨e, found, named⟩ := h.find?_entry mem
  have claimed := t.failEntry_reheld r.slot (seg := r.segment) (e := e) (by rw [own]; exact found)
  rw [own] at claimed
  have frees := Stream.frees_failed (st := { s.stream r.slot with prevGrant := p }) (e := e)
    (by rw [named]; exact h.filled ord mem)
  rw [named] at frees
  refine h.release mem (freed.blocks (State.failEntry_blocks t _ _)) (elsewhere.trans (State.failEntry_elsewhere t _ _))
    ⟨frees.state, frees.probeLive, frees.kept, frees.only, frees.fill⟩ ?_
  rw [Stream.without_of_normal _ normal]
  exact claimed

theorem State.dropRecord_own (s : State) (r : Record) (d : DropReason) :
    ∃ p, (s.dropRecord r d).stream r.slot = { s.stream r.slot with prevGrant := p } := by
  rw [State.dropRecord_stream]
  split
  · exact ⟨_, rfl⟩
  · exact ⟨_, rfl⟩

theorem State.InStep.breakAct (h : s.InStep) (ord : s.windowsOrdered) (mem : r ∈ s.pool.records) : (s.breakAct r).InStep := by
  cases normal : r.isNormal with
  | true =>
    rw [s.breakAct_of_normal normal]
    exact h.failEntry_of_freed ord mem normal (s.freeRecord_freed r) (.refl r.slot s) ⟨_, rfl⟩
  | false =>
    exact h.release mem (s.breakAct_freed r) (s.breakAct_elsewhere r) (h.frees_returned ord mem)
      (s.breakAct_reheld_of_probe normal)

end Sys2Proof.Machine
end

section
namespace Sys2Proof.Machine

/-! ### Grants -/

variable {s t : State} {n : Slot}

/-- Eligibility for a normal grant, spelled out (R126). -/
theorem State.normalEligible_iff : s.normalEligible n = true ↔
    (s.stream n).active = true ∧ (s.stream n).hold = false ∧ s.normalRecord n = none ∧
      ∃ e ∈ (s.stream n).window, e.isWaiting = true := by
  unfold State.normalEligible
  simp only [Bool.and_eq_true, Bool.not_eq_true', Option.isNone_iff_eq_none, List.any_eq_true, and_assoc]

/-- Eligibility for a probe grant, spelled out (R127). -/
theorem State.probeEligible_iff : s.probeEligible n = true ↔
    (s.stream n).probePending = true ∧ s.probeRecord n = none ∧ (s.probeTarget n).isSome = true ∧
      (s.stream n).state = .playing ∧ (s.stream n).hold = false ∧ s.cls.zone ≠ .jammed ∧
      (s.stream n).current + 1 ≤ (s.stream n).top := by
  unfold State.probeEligible
  simp only [Bool.and_eq_true, Bool.not_eq_true', Option.isNone_iff_eq_none, beq_iff_eq, bne_iff_ne, decide_eq_true_eq,
    and_assoc]

/-- The target of a normal grant is the lowest WAITING entry (R132). -/
theorem State.target_of_normalEligible (h : s.normalEligible n = true) :
    ∃ e, (s.stream n).window.find? WindowEntry.isWaiting = some e ∧ e ∈ (s.stream n).window ∧ e.isWaiting = true := by
  obtain ⟨-, -, -, x, hx, waits⟩ := State.normalEligible_iff.mp h
  cases found : (s.stream n).window.find? WindowEntry.isWaiting with
  | none => exact absurd waits (List.find?_eq_none.mp found x hx)
  | some e => exact ⟨e, rfl, List.mem_of_find?_eq_some found, List.find?_some found⟩

/-- The target of a probe grant is a WAITING entry of the window (R132). -/
theorem State.mem_of_probeTarget {e : WindowEntry} (h : s.probeTarget n = some e) :
    e ∈ (s.stream n).window ∧ e.isWaiting = true := by
  unfold State.probeTarget at h
  split at h
  · have found := List.find?_some h
    simp only [Bool.and_eq_true] at found
    exact ⟨List.mem_of_find?_eq_some h, found.1⟩
  · cases h

theorem Stream.active_of_playing {st : Stream} (h : st.state = .playing) : st.active = true := by
  unfold Stream.active; rw [h]

theorem State.mayGrant_iff : s.mayGrant = true ↔ s.liveCount < s.arb.slotLimit ∧ s.tx.queue.length ≤ 20 := decide_eq_true_iff

theorem State.grantNormal_pool {e : WindowEntry} (target : (s.stream n).window.find? WindowEntry.isWaiting = some e) :
    (s.grantNormal n).pool = ((s.takeDecision n (s.normalDecision n).2).makeRecord n e (s.normalDecision n).1
      (s.normalDecision n).2).pool := by
  rw [State.grantNormal_eq target, (State.windowChanged_blocks _ n).pool]

theorem State.grantProbe_pool {e : WindowEntry} (target : s.probeTarget n = some e) :
    (s.grantProbe n).pool = ((s.modStream n fun st => { st with probePending := false, probeLive := true }).makeRecord n e
      .probe ((s.stream n).current + 1)).pool := by
  rw [State.grantProbe_eq target, (State.windowChanged_blocks _ n).pool]

theorem State.poolSound.grantNormal (h : s.poolSound) (may : s.mayGrant = true) (eligible : s.normalEligible n = true) :
    (s.grantNormal n).poolSound := by
  obtain ⟨e, target, -, -⟩ := State.target_of_normalEligible eligible
  have same := s.takeDecision_blocks n (s.normalDecision n).2
  have made : ((s.takeDecision n (s.normalDecision n).2).makeRecord n e (s.normalDecision n).1
      (s.normalDecision n).2).poolSound := by
    refine (h.congr same.pool same.slotLimit).makeRecord n e _ _ ?_ (fun _ => ?_)
      fun isProbe => absurd isProbe (s.normalDecision_kind n)
    · rw [State.liveCount, same.pool, same.slotLimit]; exact (State.mayGrant_iff.mp may).1
    · rw [State.normalRecord, same.pool]; exact State.normalRecord_of_eligible eligible
  exact made.congr (State.grantNormal_pool target) ((s.grantNormal_shell n).slotLimit.trans same.slotLimit.symm)

theorem State.poolSound.grantProbe (h : s.poolSound) (may : s.mayGrant = true) (eligible : s.probeEligible n = true) :
    (s.grantProbe n).poolSound := by
  obtain ⟨-, none, some, -⟩ := State.probeEligible_iff.mp eligible
  obtain ⟨e, target⟩ := Option.isSome_iff_exists.mp some
  have made := (State.poolSound.congr (t := s.modStream n fun st => { st with probePending := false, probeLive := true })
    h rfl rfl).makeRecord n e .probe ((s.stream n).current + 1) (State.mayGrant_iff.mp may).1
    (fun no => absurd rfl no) fun _ => none
  exact made.congr (State.grantProbe_pool target) (s.grantProbe_shell n).slotLimit

/-- A grant keeps records and windows in step. -/
theorem State.InStep.granted (h : s.InStep) (pool : t.poolSound) (elsewhere : s.SameElsewhere n t) {r : Record}
    (records : t.pool.records = s.pool.records ++ [r]) (slot : r.slot = n)
    (own : (t.stream n).Linked fun x => s.liveIn n x ∨ x = r) : t.InStep := by
  refine ⟨pool, fun m => ?_⟩
  have live : ∀ x, t.liveIn m x ↔ s.liveIn m x ∨ (x = r ∧ r.slot = m) := fun x => by
    unfold State.liveIn
    rw [records, List.mem_append, List.mem_singleton, or_and_right]
    refine or_congr_right (and_congr_right fun same => ?_)
    rw [same]
  by_cases here : m = n
  · subst here
    have all : t.liveIn m = fun x => s.liveIn m x ∨ x = r := by
      funext x
      rw [live x, slot]; simp only [and_true]
    rw [all]; exact own
  · have all : t.liveIn m = s.liveIn m := by
      funext x
      rw [live x, slot]; simp only [Ne.symm here, and_false, or_false]
    rw [all, elsewhere m here]; exact h.2 m

theorem State.InStep.grantNormal (h : s.InStep) (ord : s.windowsOrdered) (may : s.mayGrant = true)
    (eligible : s.normalEligible n = true) : (s.grantNormal n).InStep := by
  obtain ⟨active, open_, -, -⟩ := State.normalEligible_iff.mp eligible
  obtain ⟨e, target, mem, waits⟩ := State.target_of_normalEligible eligible
  let r := (s.takeDecision n (s.normalDecision n).2).newRecord n e (s.normalDecision n).1 (s.normalDecision n).2
  have records : (s.grantNormal n).pool.records = s.pool.records ++ [r] := by
    rw [State.grantNormal_pool target, ← (s.takeDecision_blocks n (s.normalDecision n).2).pool]; rfl
  have normal : r.isNormal = true := bne_iff_ne.mpr (s.normalDecision_kind n)
  refine h.granted (h.1.grantNormal may eligible) (s.grantNormal_elsewhere n) records rfl
    (Stream.Linked.quiet ?_ (State.grantNormal_reheld target))
  exact (h.2 n).grant (ord n) mem waits active open_ (r := r) rfl (by rw [normal]; exact (Bool.or_false _).symm)

theorem State.InStep.grantProbe (h : s.InStep) (ord : s.windowsOrdered) (may : s.mayGrant = true)
    (eligible : s.probeEligible n = true) : (s.grantProbe n).InStep := by
  obtain ⟨-, -, some, playing, open_, -, -⟩ := State.probeEligible_iff.mp eligible
  obtain ⟨e, target⟩ := Option.isSome_iff_exists.mp some
  obtain ⟨mem, waits⟩ := State.mem_of_probeTarget target
  let r := (s.modStream n fun st => { st with probePending := false, probeLive := true }).newRecord n e .probe
    ((s.stream n).current + 1)
  have records : (s.grantProbe n).pool.records = s.pool.records ++ [r] := by
    rw [State.grantProbe_pool target]; rfl
  refine h.granted (h.1.grantProbe may eligible) (s.grantProbe_elsewhere n) records rfl
    (Stream.Linked.quiet ?_ (State.grantProbe_reheld target))
  exact (h.2 n).grant (ord n) mem waits (Stream.active_of_playing playing) open_ (r := r) rfl (Bool.or_true _).symm

/-! ### The other acts -/

/-- A change of one stream that leaves the records alone. -/
theorem State.InStep.of_slot (h : s.InStep) (pool : t.pool = s.pool) (limit : t.arb.slotLimit = s.arb.slotLimit)
    (elsewhere : s.SameElsewhere n t) (own : (t.stream n).Linked (s.liveIn n)) : t.InStep := by
  refine ⟨h.1.congr pool limit, fun m => ?_⟩
  rw [State.liveIn_congr (congrArg Pool.records pool)]
  by_cases here : m = n
  · exact here ▸ own
  · rw [elsewhere m here]; exact h.2 m

theorem State.InStep.quiet (h : s.InStep) (q : s.Quiet t) : t.InStep :=
  ⟨h.1.congr q.pool q.slotLimit, fun m => by
    rw [State.liveIn_congr (congrArg Pool.records q.pool)]; exact (h.2 m).quiet (q.streams m)⟩

theorem State.InStep.modStream (h : s.InStep) {f : Stream → Stream} (own : (f (s.stream n)).Linked (s.liveIn n)) :
    (s.modStream n f).InStep :=
  h.of_slot rfl rfl (s.modStream_elsewhere n f) (by rw [State.stream_modStream_same]; exact own)

/-- A change of one stream and the re-evaluation behind it: of the hold after the change nothing needs to be known. -/
theorem State.InStep.windowChanged {f : Stream → Stream} (h : s.InStep)
    (own : ({ f (s.stream n) with hold := true } : Stream).Linked (s.liveIn n)) :
    ((s.modStream n f).windowChanged n).InStep := by
  have changed := State.windowChanged_reheld (s.modStream n f) n
  rw [State.stream_modStream_same] at changed
  have blocks := (s.modStream_blocks n f).trans (State.windowChanged_blocks _ n)
  exact h.of_slot blocks.pool blocks.slotLimit ((s.modStream_elsewhere n f).trans (State.windowChanged_elsewhere _ n))
    (own.reheld.quiet changed)

theorem State.InStep.reevaluate {f : Stream → Stream} (h : s.InStep)
    (own : ({ f (s.stream n) with hold := true } : Stream).Linked (s.liveIn n)) :
    ((s.modStream n f).reevaluate n).InStep := by
  have changed := State.reevaluate_reheld (s.modStream n f) n
  rw [State.stream_modStream_same] at changed
  have blocks := (s.modStream_blocks n f).trans (State.reevaluate_blocks _ n)
  exact h.of_slot blocks.pool blocks.slotLimit ((s.modStream_elsewhere n f).trans (State.reevaluate_elsewhere _ n))
    (own.reheld.quiet changed)

/-- Records may change in everything but segment, rung and class. -/
theorem Stream.Linked.map {M : Record → Prop} {st : Stream} (h : st.Linked M) {f : Record → Record}
    (same : ∀ r, (f r).segment = r.segment ∧ (f r).rung = r.rung ∧ (f r).isNormal = r.isNormal) :
    st.Linked fun x => ∃ r, M r ∧ f r = x where
  active := fun _ ⟨r, hr, _⟩ => h.active r hr
  entry := by
    rintro _ ⟨r, hr, rfl⟩
    rw [(same r).1, (same r).2.1]; exact h.entry r hr
  claimed e he flying := by
    obtain ⟨r, hr, named⟩ := h.claimed e he flying
    exact ⟨f r, ⟨r, hr, rfl⟩, (same r).1.trans named⟩
  distinct := by
    rintro _ _ ⟨a, ha, rfl⟩ ⟨b, hb, rfl⟩ clash
    rw [(same a).1, (same b).1] at clash
    rw [h.distinct a b ha hb clash]
  probe := by
    rw [h.probe]
    constructor
    · rintro ⟨r, hr, probe⟩
      exact ⟨f r, ⟨r, hr, rfl⟩, (same r).2.2.trans probe⟩
    · rintro ⟨_, ⟨r, hr, rfl⟩, probe⟩
      exact ⟨r, hr, (same r).2.2.symm.trans probe⟩
  idle := h.idle
  ended := h.ended
  count := h.count
  full := h.full

/-- A record's marks of progress change (R55, R60). -/
theorem State.InStep.changeRecord (h : s.InStep) (tag : Nat) {g : Record → Record}
    (same : ∀ r, (g r).tag = r.tag ∧ (g r).slot = r.slot ∧ (g r).kind = r.kind ∧ (g r).segment = r.segment ∧
      (g r).rung = r.rung) : (s.changeRecord tag g).InStep := by
  have kept : ∀ r : Record, (if r.tag = tag then g r else r).tag = r.tag ∧ (if r.tag = tag then g r else r).slot = r.slot ∧
      (if r.tag = tag then g r else r).kind = r.kind ∧ (if r.tag = tag then g r else r).segment = r.segment ∧
      (if r.tag = tag then g r else r).rung = r.rung := fun r => by
    split
    · exact same r
    · exact ⟨rfl, rfl, rfl, rfl, rfl⟩
  refine ⟨h.1.map fun r => ⟨(kept r).1, (kept r).2.1, (kept r).2.2.1⟩, fun n => ?_⟩
  have live : (s.changeRecord tag g).liveIn n = fun x => ∃ r, s.liveIn n r ∧ (if r.tag = tag then g r else r) = x := by
    funext x
    unfold State.liveIn
    rw [State.changeRecord_records, List.mem_map]
    refine propext ⟨?_, ?_⟩
    · rintro ⟨⟨r, hr, rfl⟩, slot⟩
      exact ⟨r, ⟨hr, (kept r).2.1.symm.trans slot⟩, rfl⟩
    · rintro ⟨r, ⟨hr, slot⟩, rfl⟩
      exact ⟨⟨r, hr, rfl⟩, (kept r).2.1.trans slot⟩
  rw [live]
  refine (h.2 n).map fun r => ?_
  obtain ⟨-, -, kind, segment, rung⟩ := kept r
  exact ⟨segment, rung, by rw [Record.isNormal, kind]; rfl⟩

/-- Buffer entries leave at the head of the queue. -/
theorem Stream.Linked.restOf {M : Record → Prop} {st : Stream} (h : st.Linked M) {rest : List BufferEntry}
    (left : RestOf rest st.buffer) : ({ st with buffer := rest, hold := true } : Stream).Linked M := by
  have short : rest.length ≤ st.buffer.length := by
    rcases left with rfl | ⟨gone, b, bs, left, queue, rfl, -, -⟩
    · exact Nat.zero_le _
    · rw [queue, List.length_append, List.length_cons, List.length_cons]; omega
  exact h.refilled (w := st.window) (fun _ he _ => he) (fun _ he _ => he)
    (fun empty => List.eq_nil_of_length_eq_zero (Nat.le_zero.mp (by rw [empty] at short; exact short))) h.ended
    (Nat.add_le_add_right short _)

/-- WAITING entries join the window of a stream that has not ended (R37). -/
theorem Stream.Linked.appended {M : Record → Prop} {st : Stream} (h : st.Linked M) {es : List AppendEntry}
    (ok : st.Appendable es) : ({ st.appended es with hold := true } : Stream).Linked M := by
  have waiting : ∀ e ∈ es.map AppendEntry.toWindow, e.isWaiting = true ∧ e.isInFlight = false := fun e he => by
    obtain ⟨x, -, rfl⟩ := List.mem_map.mp he
    exact ⟨rfl, rfl⟩
  have joined := h.refilled (w := st.window ++ es.map AppendEntry.toWindow) (bs := st.buffer)
    (fun e he _ => List.mem_append_left _ he) (fun e he flying => ?_) id (fun no => absurd no ok.notEnded) ?_
  · exact ⟨joined.active, joined.entry, joined.claimed, joined.distinct, joined.probe, joined.idle, joined.ended,
      joined.count, joined.full⟩
  · rcases List.mem_append.mp he with old | new
    · exact old
    · rw [(waiting e new).2] at flying; cases flying
  · have none : (es.map AppendEntry.toWindow).filter (fun e => !e.isWaiting) = [] :=
      List.filter_eq_nil_iff.mpr fun e he => by simp [(waiting e he).1]
    unfold Stream.fillCount
    rw [List.filter_append, none, List.append_nil]

end Sys2Proof.Machine
end

section
namespace Sys2Proof.Machine

/-! ### Every act keeps records and windows in step -/

variable {s t : State} {n : Slot}

/-- The PROBE records that are dropped one after the other are live each at its turn. -/
theorem State.InStep.failProbes (d : DropReason) (rs : List Record) (probes : ∀ r ∈ rs, r.isNormal = false)
    (nodup : rs.Nodup) : ∀ {s : State}, s.InStep → s.windowsOrdered → (∀ r ∈ rs, r ∈ s.pool.records) →
      (rs.foldl (fun s r => s.failProbe r d) s).InStep := by
  induction rs with
  | nil => exact fun h _ _ => h
  | cons r rs ih =>
    intro s h ord mem
    have live := mem r List.mem_cons_self
    have probe := probes r List.mem_cons_self
    obtain ⟨fresh, nodup⟩ := List.nodup_cons.mp nodup
    refine ih (fun x hx => probes x (List.mem_cons_of_mem r hx)) nodup (h.failProbe ord live probe d)
      (State.windowsOrdered.failProbes d [r] (fun x hx => List.mem_singleton.mp hx ▸ probe) ord) fun x hx => ?_
    exact ((s.failProbe_freed r d).mem_iff h.1 live x).mpr
      ⟨mem x (List.mem_cons_of_mem r hx), fun same => fresh (same ▸ hx)⟩

/-- A stream that a command has emptied has no records, and the others have theirs (R19 to R21). -/
theorem State.InStep.vacate (h : s.InStep) {d : DropReason} (dropped : State.Vacated n d s t) (empty : (t.stream n).Vacant) :
    t.InStep := by
  have records : t.pool.records = s.pool.records.filter fun r => r.slot != n := by
    rw [dropped.pool]; exact h.1.dropStream_records n d
  have pool : t.poolSound :=
    (h.1.sublist (List.filter_sublist (p := fun r : Record => r.slot != n))).congr (s := s.setRecords _)
      (by
        have nextTag : t.pool.nextTag = s.pool.nextTag := by rw [dropped.pool]; exact (s.dropStream_shell n d).2.1
        exact congrArg₂ Pool.mk records nextTag)
      (congrArg Arbiter.slotLimit dropped.arb)
  refine ⟨pool, fun m => ?_⟩
  by_cases here : m = n
  · subst here
    exact empty.linked fun r hr => ((h.1.mem_dropped m d dropped.pool r).mp hr.1).2 hr.2
  · have live : t.liveIn m = s.liveIn m := by
      funext r
      unfold State.liveIn
      rw [h.1.mem_dropped n d dropped.pool r, and_assoc]
      exact propext (and_congr_right fun _ => ⟨And.right, fun slot => ⟨fun no => here (slot.symm.trans no), slot⟩⟩)
    rw [live, dropped.elsewhere m here]; exact h.2 m

/-- Every slot is closed and no record is live (R172 to R174). -/
theorem State.InStep.closed (h : s.InStep) (records : t.pool.records = [])
    (nextTag : t.pool.nextTag = s.pool.nextTag ∨ t.pool.nextTag = 1)
    (limit : t.arb.slotLimit = s.arb.slotLimit ∨ t.arb.slotLimit = 3) (empty : ∀ m, (t.stream m).Vacant) : t.InStep := by
  obtain ⟨-, -, -, next, next', low, high, -⟩ := h.1
  refine ⟨?_, fun m => (empty m).linked fun r hr => ?_⟩
  · unfold State.poolSound
    rw [records]
    exact ⟨List.nodup_nil, nofun, Nat.zero_le _, by omega, by omega, by omega, by omega,
      fun _ => ⟨Nat.zero_le _, Nat.zero_le _⟩⟩
  · rw [State.liveIn, records] at hr
    cases hr.1

theorem State.InStep.limit (h : s.InStep) (pool : t.pool = s.pool) (low : 1 ≤ t.arb.slotLimit) (high : t.arb.slotLimit ≤ 8)
    (streams : ∀ m, (s.stream m).Quiet (t.stream m)) : t.InStep := by
  obtain ⟨tags, range, length, next, next', -, -, kinds⟩ := h.1
  refine ⟨?_, fun m => ?_⟩
  · unfold State.poolSound
    rw [pool]
    exact ⟨tags, range, length, next, next', low, high, kinds⟩
  · rw [State.liveIn_congr (congrArg Pool.records pool)]; exact (h.2 m).quiet (streams m)

/-- The end of the presentation: an ENDED stream has nothing in its window (R18). -/
theorem Stream.Linked.ended_of_empty {M : Record → Prop} {st : Stream} (h : st.Linked M) (empty : st.window = []) :
    ({ st with state := .ended } : Stream).Linked M := by
  have none : ∀ r, ¬ M r := fun r hr => by
    obtain ⟨e, he, -⟩ := h.entry r hr
    rw [empty] at he; cases he
  exact ⟨fun r hr => absurd hr (none r), h.entry, h.claimed, h.distinct, h.probe, nofun, fun _ => empty, h.count, h.full⟩

theorem Stream.Linked.unprobed {M : Record → Prop} {st : Stream} (h : st.Linked M) (inactive : st.active = false) :
    ({ st with probeLive := false } : Stream).Linked M :=
  ⟨h.active, h.entry, h.claimed, h.distinct, ⟨nofun, fun ⟨r, hr, _⟩ => absurd hr (h.none_of_inactive inactive r)⟩, h.idle,
    h.ended, h.count, h.full⟩

theorem State.Act.inStep (act : s.Act t) (ord : s.windowsOrdered) (h : s.InStep) : t.InStep := by
  cases act with
  | quiet q => exact h.quiet q
  | limit pool low high streams => exact h.limit pool low high streams
  | report tag g same => exact h.changeRecord tag same
  | grantNormal n may next => exact h.grantNormal ord may (State.eligible_of_nextNormal next)
  | grantProbe n may next => exact h.grantProbe ord may (State.eligible_of_nextProbe next)
  | rescue r d mem normal => exact h.dropToWaiting ord mem normal d
  | failProbes rs d mem probes =>
    have nodup : rs.Nodup := by
      obtain ⟨order, perm, sub⟩ := mem
      exact perm.nodup_iff.mp (sub.nodup h.1.1.of_map)
    exact .failProbes d rs probes nodup h ord fun r hr => mem.subset hr
  | land r bytes mem => exact h.landAct ord mem bytes
  | breakOff r mem => exact h.breakAct ord mem
  | abandon r d mem normal =>
    exact h.failEntry_of_freed ord mem normal (s.dropRecord_freed r d) (s.dropRecord_elsewhere r d) (s.dropRecord_own r d)
  | append body r passed => exact h.windowChanged ((h.2 r.slot).appended (State.appendable_of_checkAppend passed))
  | position n seg off bs found =>
    have left := (h.2 n).restOf (resync_restOf found)
    exact h.windowChanged (f := fun st => { st with buffer := bs, acc := 0 })
      (left.quiet (.of_bond rfl))
  | drain n =>
    have left := (h.2 n).restOf (drainQueue_restOf (ord n).remaining (s.stream n).drainAmount)
    exact h.reevaluate (left.quiet (.of_bond rfl))
  | finish n empty => exact h.modStream ((h.2 n).ended_of_empty empty)
  | vacate n d dropped empty => exact h.vacate dropped empty
  | fresh n st inactive empty => exact h.modStream (f := fun _ => st) (empty.linked ((h.2 n).none_of_inactive inactive))
  | unprobed n f inactive quiet => exact h.modStream (((h.2 n).unprobed inactive).quiet quiet)
  | closed records nextTag limit empty => exact h.closed records nextTag limit empty

end Sys2Proof.Machine

open Sys2Proof Sys2Proof.Machine

/-- Settles O57: every command is a chain of acts, and every act keeps records and windows in step where the windows are in order;
the stream controller's part and the order of the windows are kept by O55 and O56. -/
theorem everyStepKeepsRecordsAndWindowsInStep : Obligations.EveryStepKeepsRecordsAndWindowsInStep := by
  intro s t sound run
  obtain ⟨pool, controlled, ordered, agree, fills⟩ := sound
  have kept : t.windowsOrdered ∧ t.InStep :=
    (step_acts run).keeps (P := fun s => s.windowsOrdered ∧ s.InStep)
      (fun _ _ act h => ⟨act.ordered h.1, act.inStep h.1 h.2⟩) ⟨ordered, State.inStep_iff.mpr ⟨pool, agree, fills⟩⟩
  obtain ⟨ordered', inStep⟩ := kept
  obtain ⟨pool', agree', fills'⟩ := State.inStep_iff.mp inStep
  exact ⟨pool', everyStepKeepsStreamsControlled s t controlled run, ordered', agree', fills'⟩

end

section
namespace Sys2Proof.Machine

/-! ## APPEND (O27) -/

variable {s : State} {st : Stream} {es : List AppendEntry}

/-- An arbitration changes states of window entries, not their number (R129, R31). -/
theorem State.grants_window_length (k : Nat) (m : Slot) : ∀ s : State,
    ((State.grants k s).stream m).window.length = (s.stream m).window.length := by
  have changed : ∀ (n : Slot) {s t : State} {seg rung : Nat}, s.SameElsewhere n t →
      ((s.stream n).granted seg rung).window = (t.stream n).window →
      (t.stream m).window.length = (s.stream m).window.length := fun n {s t seg rung} elsewhere own => by
    by_cases here : m = n
    · rw [here, ← own]; exact List.length_map _
    · rw [elsewhere m here]
  induction k with
  | zero => exact fun _ => rfl
  | succ k ih =>
    intro s
    unfold State.grants
    split
    · split
      · rename_i n next
        obtain ⟨e, target, -⟩ := State.target_of_normalEligible (State.eligible_of_nextNormal next)
        exact (ih _).trans (changed n (s.grantNormal_elsewhere n) (State.grantNormal_reheld target).window.symm)
      · rename_i n _ next
        obtain ⟨-, -, some, -⟩ := State.probeEligible_iff.mp (State.eligible_of_nextProbe next)
        obtain ⟨e, target⟩ := Option.isSome_iff_exists.mp some
        exact (ih _).trans (changed n (s.grantProbe_elsewhere n) (State.grantProbe_reheld target).window.symm)
      · rfl
    · rfl

theorem State.arbitrate_window_length (s : State) (m : Slot) :
    (s.arbitrate.stream m).window.length = (s.stream m).window.length := by
  unfold State.arbitrate
  rw [State.grants_window_length, ((s.forSlots_quiet State.dryTest_quiet).streams m).window]

/-- The field checks that read the stream, spelled out (R35). -/
theorem Stream.appendFields_eq_false_iff (st : Stream) (es : List AppendEntry) :
    st.appendFields es = false ↔
      (∃ last e, st.origin = some last ∧ es.head? = some e ∧ e.segment ≠ last + 1) ∨
        (st.ladder ≠ [] ∧ ∃ e ∈ es, e.sizes ≠ [] ∧ e.sizes.length ≠ st.ladder.length) := by
  unfold Stream.appendFields
  rw [Bool.and_eq_false_iff, or_comm]
  refine or_congr ?_ ?_
  · cases origin : st.origin <;> cases first : es.head? <;> simp
  · simp only [Bool.or_eq_false_iff, Bool.not_eq_false', Stream.hasLadder_iff, List.all_eq_false, beq_iff_eq, Bool.or_eq_true,
      not_or, List.length_eq_zero_iff, ne_eq]

/-- Of the entries that pass the field checks the last alone may carry LAST (R34). -/
theorem any_entryLast {e : AppendEntry} (ranges : appendRanges es = true) (last : es.getLast? = some e) :
    es.any entryLast = entryLast e := by
  obtain ⟨init, rfl⟩ := List.getLast?_eq_some_iff.mp last
  simp only [appendRanges, List.dropLast_concat, Bool.and_eq_true, List.all_eq_true, Bool.not_eq_true'] at ranges
  obtain ⟨-, none⟩ := ranges
  have before : init.any entryLast = false := List.any_eq_false.mpr fun x hx => by rw [none x hx]; exact Bool.false_ne_true
  rw [List.any_append, before, Bool.false_or, List.any_cons, List.any_nil, Bool.or_false]

theorem exists_getLast?_of_appendRanges (ranges : appendRanges es = true) : ∃ e, es.getLast? = some e := by
  simp only [appendRanges, Bool.and_eq_true, decide_eq_true_eq] at ranges
  obtain ⟨⟨⟨⟨some, -⟩, -⟩, -⟩, -⟩ := ranges
  exact Option.isSome_iff_exists.mp (List.getLast?_isSome.mpr (List.ne_nil_of_length_pos some))

/-- What APPEND answers, an entry or more having come (R37). -/
theorem State.append_reply (s : State) (n : Slot) (es : List AppendEntry) :
    ((((s.modStream n fun st => st.appended es).windowChanged n).arbitrate).stream n).window.length =
      (s.stream n).window.length + es.length := by
  rw [State.arbitrate_window_length, (State.windowChanged_reheld _ n).window, State.stream_modStream_same]
  simp only [Stream.reheld, Stream.appended, List.length_append, List.length_map]

end Sys2Proof.Machine

open Sys2Proof Sys2Proof.Machine

/-- Settles O27: the checks in their order, each by what it reads of the stream, and the act by the appended stream. -/
theorem appendAddsItsEntriesOrNone : Obligations.AppendAddsItsEntriesOrNone := by
  intro s body r parsed door st misfit wrong
  have fields : st.appendFields r.entries = false ↔ misfit := st.appendFields_eq_false_iff r.entries
  have bare : st.hasLadder = false ↔ st.ladder = [] := by simp [Stream.hasLadder]
  have listed : (r.entries.any fun e => e.sizes != []) = true ↔ ∃ e ∈ r.entries, e.sizes ≠ [] := by simp
  have check : s.popFrame.checkAppend body =
      if !st.appendFields r.entries then .error .badField
      else if !st.isOpen then .error .noStream
      else if st.state = .ended ∨ st.lastAppended = true then .error .wrongState
      else if st.hasLadder = false ∧ r.entries.any (fun e => e.sizes != []) then .error .wrongState
      else if 16 < st.window.length + r.entries.length then .error .full
      else .ok r := by
    rw [State.checkAppend, parsed]; rfl
  have past : ¬misfit → st.state ≠ .closed → s.popFrame.checkAppend body =
      if wrong then .error .wrongState
      else if 16 < st.window.length + r.entries.length then .error .full else .ok r := fun fit opened => by
    have passed : st.appendFields r.entries = true := by rwa [← fields, Bool.not_eq_false] at fit
    rw [check, passed, st.isOpen_iff.mpr opened]
    by_cases ended : st.state = .ended ∨ st.lastAppended = true
    · rw [if_pos (or_assoc.mp (.inl ended) : wrong)]; exact if_pos ended
    · have rest : (st.hasLadder = false ∧ (r.entries.any fun e => e.sizes != []) = true) ↔ wrong := by
        rw [listed, bare]
        exact ⟨fun w => .inr (.inr w), fun w => (or_assoc.mpr w).resolve_left ended⟩
      exact (if_neg ended).trans (if_congr rest rfl rfl)
  refine ⟨fun fit opened right room => ?_, fun unfit => ?_, fun fit opened isWrong => ?_, fun fit opened right full => ?_⟩
  · have ranges := appendRanges_of_parseAppend parsed
    obtain ⟨e, last⟩ := exists_getLast?_of_appendRanges ranges
    refine ⟨e, last, ?_⟩
    have notYet : st.lastAppended = false := Bool.eq_false_iff.mpr fun l => right (.inr (.inl l))
    have appended : st.appended r.entries =
        { st with
          window := st.window ++ r.entries.map AppendEntry.toWindow,
          origin := some e.segment, lastAppended := entryLast e, dryArmed := true } := by
      rw [Stream.appended, last, notYet, any_entryLast ranges last, Bool.false_or]
    refine (State.next_request_of_ok (a := r) door ((past fit opened).trans ((if_neg right).trans (if_neg (by omega))))).trans ?_
    dsimp only
    rw [State.append_reply, State.modStream_eq]
    change Host.Outcome.next ((((s.popFrame.setStream r.slot (st.appended r.entries)).windowChanged r.slot).arbitrate).reply
      0x13 .ok _) = _
    rw [appended]
    rfl
  · have failed : st.appendFields r.entries = false := fields.mpr unfit
    exact State.next_request_of_error (check := fun s => s.checkAppend body) door (check.trans (if_pos (by rw [failed]; rfl)))
  · exact State.next_request_of_error (check := fun s => s.checkAppend body) door ((past fit opened).trans (if_pos isWrong))
  · exact State.next_request_of_error (check := fun s => s.checkAppend body) door
      ((past fit opened).trans ((if_neg right).trans (if_pos full)))

end

section
namespace Sys2Proof.Machine

/-! ## Drops, failure claims and skips (O46) -/

variable {s : State} {n : Slot} {as bs : List WindowEntry} {e : WindowEntry}

/-- A drop to WAITING, the entry's stream written once (R33, R56, R58). -/
theorem State.dropToWaiting_eq (s : State) (r : Record) (d : DropReason) :
    s.dropToWaiting r d =
      (({ s with
        pool := { s.pool with records := s.pool.records.filter fun x => x.tag != r.tag },
        tx := { s.tx with queue := queueAfterDrop s.tx.queue r d } } : State).setStream r.slot
          ((s.stream r.slot).returned r)).windowChanged r.slot := by
  unfold State.dropToWaiting State.dropRecord queueAfterDrop Stream.returned
  cases r.announcePending with
  | true =>
    simp only [if_true, State.withdraw, State.returnEntry, State.modStream_modStream]
    rfl
  | false => rfl

/-- The entry of a number is found where the number stands once. -/
theorem find?_split (before : ∀ x ∈ as, x.segment ≠ e.segment) :
    (as ++ e :: bs).find? (fun x => x.segment == e.segment) = some e := by
  have none : as.find? (fun x => x.segment == e.segment) = none :=
    List.find?_eq_none.mpr fun x hx same => before x hx (beq_iff_eq.mp same)
  rw [List.find?_append, none, Option.none_or, List.find?_cons_of_pos (by simp)]

/-- The entry leaves a window in which its number stands once. -/
theorem filter_split (before : ∀ x ∈ as, x.segment ≠ e.segment) (behind : ∀ x ∈ bs, x.segment ≠ e.segment) :
    (as ++ e :: bs).filter (fun x => x.segment != e.segment) = as ++ bs := by
  have all : ∀ xs : List WindowEntry, (∀ x ∈ xs, x.segment ≠ e.segment) →
      xs.filter (fun x => x.segment != e.segment) = xs := fun xs other => List.filter_eq_self.mpr fun x hx => bne_iff_ne.mpr (other x hx)
  rw [List.filter_append, List.filter_cons_of_neg (by simp), all as before, all bs behind]

/-- A skip, its changes of the stream made behind the raise (R41, R73). -/
theorem State.skipEntry_eq (s : State) (n : Slot) (e : WindowEntry) :
    s.skipEntry n e =
      ((s.raise n .skip).modStream n fun st => Stream.moved
        { st with
          window := st.window.filter (fun x => x.segment != e.segment),
          finalKnown := st.finalKnown || e.last }).windowChanged n := by
  have raised := State.raise_modStream (s := s) (n := n) .skip
    (g := fun st => { st with window := st.window.filter fun x => x.segment != e.segment }) (fun _ => rfl) (fun _ => rfl)
    fun _ _ => rfl
  unfold State.skipEntry State.contiguousMove
  dsimp only
  rw [raised, State.modStream_modStream, State.modStream_modStream]

end Sys2Proof.Machine

open Sys2Proof Sys2Proof.Machine

/-- Settles O46: a drop by its equation; a claim by the entry that is found, its failures deciding between return and skip. -/
theorem dropsFailuresAndSkips : Obligations.DropsFailuresAndSkips := by
  refine ⟨fun s r d => s.dropToWaiting_eq r d, ?_⟩
  intro s n as bs e st window others
  have before : ∀ x ∈ as, x.segment ≠ e.segment := fun x hx => others x (List.mem_append_left _ hx)
  have behind : ∀ x ∈ bs, x.segment ≠ e.segment := fun x hx => others x (List.mem_append_right _ hx)
  have found : st.window.find? (fun x => x.segment == e.segment) = some e := by rw [window, find?_split before]
  have claim : s.failEntry n e.segment =
      if e.failures < 2 then
        (s.setStream n
          { st with window :=
              changeEntry e.segment (fun e => { e.returned with failures := e.failures + 1 }) st.window }).windowChanged n
      else s.skipEntry n e := by
    unfold State.failEntry
    rw [found]
    rfl
  refine ⟨fun few => ?_, fun third moved stay stays left => ?_⟩
  · rw [claim, if_pos few, window, changeEntry_split _ before behind]
    rfl
  · rw [claim, if_neg (by omega), State.skipEntry_eq]
    have raised : ((s.raise n .skip).stream n).window = st.window := (s.raise_quiet n .skip).streams n |>.window
    refine congrArg (fun t : State => t.windowChanged n) (congrArg ((s.raise n .skip).setStream n) ?_)
    dsimp only
    rw [Stream.moved_eq stays (by dsimp only; rw [raised, window, filter_split before behind, left])]
    rfl

end

section
namespace Sys2Proof.Machine

/-! ## Grants make records (O47) -/

/-- The search for a tag passes over live tags, and ends early only on one that is free (R47). -/
theorem firstFreeTag_eq_iterate (live : List Nat) (k : Nat) : ∀ t : Nat,
    ∃ i ≤ k, firstFreeTag live k t = tagAfter^[i] t ∧ (∀ j, j < i → tagAfter^[j] t ∈ live) ∧
      (i < k → tagAfter^[i] t ∉ live) := by
  induction k with
  | zero => exact fun t => ⟨0, le_refl 0, rfl, nofun, nofun⟩
  | succ k ih =>
    intro t
    unfold firstFreeTag
    split
    · rename_i passed
      obtain ⟨i, le, found, before, free⟩ := ih (tagAfter t)
      refine ⟨i + 1, by omega, by rw [found, Function.iterate_succ_apply], fun j hj => ?_, fun lt => ?_⟩
      · cases j with
        | zero => exact List.contains_iff_mem.mp passed
        | succ j => rw [Function.iterate_succ_apply]; exact before j (by omega)
      · rw [Function.iterate_succ_apply]; exact free (by omega)
    · rename_i free
      exact ⟨0, Nat.zero_le _, rfl, nofun, fun _ mem => free (List.contains_iff_mem.mpr mem)⟩

/-- Tags in a row are distinct as long as they are 255 at most, so one more than are live is free (R47). -/
theorem exists_free_of_iterate {live : List Nat} {t : Nat} (low : 1 ≤ t) (high : t ≤ 255) {k : Nat} (short : k ≤ 255)
    (few : live.length < k) : ¬ ∀ i, i < k → tagAfter^[i] t ∈ live := by
  intro passed
  have distinct : ((List.range k).map fun i => tagAfter^[i] t).Nodup := by
    refine List.Nodup.map_on (fun i hi j hj same => ?_) List.nodup_range
    simp only [tagAfter_iterate low high, List.mem_range] at hi hj same
    omega
  have within : ((List.range k).map fun i => tagAfter^[i] t) ⊆ live := fun x hx => by
    obtain ⟨i, hi, rfl⟩ := List.mem_map.mp hx
    exact passed i (List.mem_range.mp hi)
  have := (List.subperm_of_subset distinct within).length_le
  simp only [List.length_map, List.length_range] at this
  omega

/-- The next tag is the first that no live record holds, counted from the next-tag counter (R47, R49). -/
theorem State.poolSound.freeTag_eq {s : State} (h : s.poolSound) :
    ∃ k, s.pool.freeTag = tagAfter^[k] s.pool.nextTag ∧
      (∀ j, j < k → tagAfter^[j] s.pool.nextTag ∈ s.pool.records.map Record.tag) ∧
      tagAfter^[k] s.pool.nextTag ∉ s.pool.records.map Record.tag := by
  obtain ⟨-, -, length, next, next', -⟩ := h
  obtain ⟨k, le, found, before, free⟩ := firstFreeTag_eq_iterate (s.pool.records.map Record.tag) 8 s.pool.nextTag
  refine ⟨k, found, before, fun live => ?_⟩
  have last : k = 8 := le.antisymm (not_lt.mp fun lt => free lt live)
  refine exists_free_of_iterate (live := s.pool.records.map Record.tag) next next' (k := 9) (by omega)
    (by rw [List.length_map]; omega) fun i hi => ?_
  rcases Nat.lt_succ_iff_lt_or_eq.mp hi with lt | rfl
  · exact before i (by omega)
  · exact last ▸ live

/-- The deadline span by the factor of the record's kind (R53). -/
theorem Stream.span_eq (st : Stream) (e : WindowEntry) (kind : FetchKind) :
    st.span e kind = e.duration * (if kind = .probe then st.cfg.probeFactor else st.cfg.deadlineFactor) / 8 := by
  cases kind <;> rfl

/-- The FETCH directive tells the deadline span (R54). -/
theorem State.newRecord_span (s : State) (n : Slot) (e : WindowEntry) (kind : FetchKind) (rung : Nat) :
    (s.newRecord n e kind rung).deadline - (s.newRecord n e kind rung).grantTime = (s.stream n).span e kind :=
  Nat.add_sub_cancel_left _ _

end Sys2Proof.Machine

open Sys2Proof Sys2Proof.Machine

/-- Settles O47: the tag by the search's equation, the other fields as the grant writes them. -/
theorem grantMakesItsRecordAndFetch : Obligations.GrantMakesItsRecordAndFetch := by
  intro s n e kind rung pool st following live size factor init expected
  obtain ⟨k, tag, before, free⟩ := pool.freeTag_eq
  refine ⟨k, before, free, ?_⟩
  change s.makeRecord n e kind rung = _
  have span : st.span e kind = e.duration * factor / 8 := st.span_eq e kind
  have made : s.newRecord n e kind rung =
      { tag := tagAfter^[k] s.pool.nextTag, slot := n, segment := e.segment, kind := kind, rung := rung, init := init,
        expected := expected, reported := 0, running := false, announcePending := true, grantTime := s.now,
        deadline := s.now + e.duration * factor / 8 } := by
    unfold State.newRecord
    rw [tag, ← span]
    rfl
  have directive := s.newRecord_span n e kind rung
  unfold State.makeRecord Record.directive
  dsimp only
  rw [directive, made]
  rw [show (s.stream n).span e kind = _ from span]
  rfl

end

section
namespace Sys2Proof.Machine

/-! ## Who is granted (O52) -/

variable {s : State} {n : Slot}

theorem WindowEntry.isWaiting_iff {e : WindowEntry} : e.isWaiting = true ↔ e.state = .waiting := by
  unfold WindowEntry.isWaiting
  cases e.state <;> simp

theorem Record.isNormal_iff {r : Record} : r.isNormal = true ↔ r.kind ≠ .probe := bne_iff_ne

theorem State.normalRecord_eq_none_iff :
    s.normalRecord n = none ↔ ∀ r ∈ s.pool.records, r.slot = n → r.kind = .probe := by
  unfold State.normalRecord
  simp only [List.find?_eq_none, Bool.and_eq_true, beq_iff_eq, Record.isNormal_iff, not_and, not_not]

theorem State.probeRecord_eq_none_iff :
    s.probeRecord n = none ↔ ∀ r ∈ s.pool.records, r.slot = n → r.kind ≠ .probe := by
  unfold State.probeRecord
  simp only [List.find?_eq_none, Bool.and_eq_true, beq_iff_eq, Bool.not_eq_true', ← Bool.not_eq_true, Record.isNormal_iff,
    not_and, not_not]

/-- There is a target for a probe grant where an entry above the normal record's waits (R132). -/
theorem State.probeTarget_isSome_iff : (s.probeTarget n).isSome = true ↔
    ∃ r, s.normalRecord n = some r ∧ ∃ e ∈ (s.stream n).window, e.state = .waiting ∧ r.segment < e.segment := by
  unfold State.probeTarget
  cases s.normalRecord n with
  | none => simp
  | some r => simp [WindowEntry.isWaiting_iff]

/-! ### The order of grants -/

/-- What decides between two streams: margin level, priority, and the distance behind the rotation pointer (R130). -/
def State.urgency (s : State) (p n : Slot) : Nat × Nat × Nat :=
  ((s.stream n).margin.code, (s.stream n).cfg.priority, (n - (p + 1)).val)

/-- The lexicographic order of urgencies. -/
def Sooner (a b : Nat × Nat × Nat) : Prop := a.1 < b.1 ∨ (a.1 = b.1 ∧ (a.2.1 < b.2.1 ∨ (a.2.1 = b.2.1 ∧ a.2.2 < b.2.2)))

theorem Sooner.trans {a b c : Nat × Nat × Nat} (h : Sooner a b) (h' : Sooner b c) : Sooner a c := by
  unfold Sooner at *; omega

theorem Sooner.asymm {a b : Nat × Nat × Nat} (h : Sooner a b) : ¬ Sooner b a := by
  unfold Sooner at *; omega

/-- The slots in rotation stand in the order of their distance behind the pointer. -/
theorem rotation_pairwise (p : Slot) : (rotation p).Pairwise fun a b => (a - (p + 1)).val < (b - (p + 1)).val := by
  revert p; decide

theorem mem_rotation (p n : Slot) : n ∈ rotation p := by
  revert p n; decide

/-- Margin level and priority decide, or the slots' order does. -/
theorem State.moreUrgent_or (s : State) {p a b : Slot} (order : (b - (p + 1)).val < (a - (p + 1)).val) :
    if s.moreUrgent a b then Sooner (s.urgency p a) (s.urgency p b) else Sooner (s.urgency p b) (s.urgency p a) := by
  unfold State.moreUrgent Sooner State.urgency
  simp only [decide_eq_true_eq]
  split <;> omega

/-- The most urgent of a list in rotation order comes before all others of it. -/
theorem State.mostUrgent_sooner (s : State) (p : Slot) : ∀ (l : List Slot),
    (l.Pairwise fun a b => (a - (p + 1)).val < (b - (p + 1)).val) → ∀ n, s.mostUrgent l = some n →
      ∀ m ∈ l, m ≠ n → Sooner (s.urgency p n) (s.urgency p m) := by
  intro l
  induction l with
  | nil => exact fun _ _ found => nomatch found
  | cons x l ih =>
    intro order n found m mem other
    obtain ⟨first, order⟩ := List.pairwise_cons.mp order
    unfold State.mostUrgent at found
    split at found
    · rename_i best rest
      have decides := s.moreUrgent_or (p := p) (first best (s.mostUrgent_mem l rest))
      split at found
      · rename_i urgent
        rw [if_pos urgent] at decides
        obtain rfl := Option.some.inj found
        rcases List.mem_cons.mp mem with rfl | mem
        · exact decides
        · exact ih order _ rest m mem other
      · rename_i calm
        rw [if_neg calm] at decides
        cases found
        have behind := (List.mem_cons.mp mem).resolve_left other
        by_cases same : m = best
        · rw [same]; exact decides
        · exact decides.trans (ih order best rest m behind same)
    · rename_i rest
      cases found
      cases l with
      | nil => exact absurd (List.mem_singleton.mp mem) other
      | cons y l =>
        unfold State.mostUrgent at rest
        split at rest
        · split at rest <;> cases rest
        · cases rest

theorem State.mostUrgent_isSome (s : State) {l : List Slot} (some : l ≠ []) : ∃ n, s.mostUrgent l = Option.some n := by
  cases l with
  | nil => exact absurd rfl some
  | cons x l =>
    unfold State.mostUrgent
    split
    · split
      · exact ⟨_, rfl⟩
      · exact ⟨_, rfl⟩
    · exact ⟨_, rfl⟩

/-- The next normal grant goes to the eligible stream that comes before all other eligible ones (R130). -/
theorem State.nextNormal_iff (n : Slot) : s.nextNormal = some n ↔
    s.normalEligible n = true ∧ ∀ m, s.normalEligible m = true → m ≠ n →
      Sooner (s.urgency s.arb.rotation n) (s.urgency s.arb.rotation m) := by
  have listed : ∀ m, m ∈ (rotation s.arb.rotation).filter s.normalEligible ↔ s.normalEligible m = true := fun m => by
    rw [List.mem_filter]; exact and_iff_right (mem_rotation _ m)
  have first : ∀ n, s.nextNormal = some n → ∀ m, s.normalEligible m = true → m ≠ n →
      Sooner (s.urgency s.arb.rotation n) (s.urgency s.arb.rotation m) := fun n found m eligible other =>
    s.mostUrgent_sooner s.arb.rotation _ ((rotation_pairwise _).filter _) n found m ((listed m).mpr eligible) other
  refine ⟨fun found => ⟨State.eligible_of_nextNormal found, first n found⟩, fun ⟨eligible, before⟩ => ?_⟩
  obtain ⟨x, found⟩ := s.mostUrgent_isSome (List.ne_nil_of_mem ((listed n).mpr eligible))
  by_cases same : x = n
  · exact same ▸ found
  · exact absurd (first x found n eligible (Ne.symm same)) (before x (State.eligible_of_nextNormal found) same).asymm

/-- The first of a list in ascending order that meets a condition is the least that does. -/
theorem find?_eq_some_iff_of_pairwise {α : Type} {l : List α} {p : α → Bool} {f : α → Nat}
    (order : l.Pairwise fun a b => f a < f b) (x : α) :
    l.find? p = some x ↔ p x = true ∧ x ∈ l ∧ ∀ y ∈ l, p y = true → y ≠ x → f x < f y := by
  rw [List.find?_eq_some_iff_append]
  refine and_congr_right fun holds => ⟨?_, ?_⟩
  · rintro ⟨as, bs, rfl, before⟩
    refine ⟨List.mem_append_right _ List.mem_cons_self, fun y hy py other => ?_⟩
    rcases List.mem_append.mp hy with early | late
    · exact absurd py (by simpa using before y early)
    · exact (List.pairwise_cons.mp (List.pairwise_append.mp order).2.1).1 y ((List.mem_cons.mp late).resolve_left other)
  · rintro ⟨mem, least⟩
    obtain ⟨as, bs, rfl⟩ := List.append_of_mem mem
    refine ⟨as, bs, rfl, fun y hy => ?_⟩
    have lt := (List.pairwise_append.mp order).2.2 y hy x List.mem_cons_self
    cases py : p y with
    | false => rfl
    | true =>
      have := least y (List.mem_append_left _ hy) py fun same => by rw [same] at lt; exact lt_irrefl _ lt
      omega

theorem State.nextProbe_iff (n : Slot) : s.nextProbe = some n ↔
    s.probeEligible n = true ∧ ∀ m, s.probeEligible m = true → m ≠ n →
      (n - (s.arb.probeRotation + 1)).val < (m - (s.arb.probeRotation + 1)).val := by
  unfold State.nextProbe
  rw [find?_eq_some_iff_of_pairwise (rotation_pairwise _)]
  simp only [mem_rotation, true_and, forall_true_left]

end Sys2Proof.Machine

open Sys2Proof Sys2Proof.Machine

/-- Settles O52: eligibility as its conditions say, the order by the place in the rotation, the targets as the first entries of the
window that will do. -/
theorem grantsGoToTheMostUrgentStream : Obligations.GrantsGoToTheMostUrgentStream := by
  intro s distance key before
  refine ⟨fun n => ?_, fun n => ?_, fun n => State.nextNormal_iff n, fun n => State.nextProbe_iff n, ?_, ?_⟩
  · simp only [State.normalEligible_iff, State.normalRecord_eq_none_iff, WindowEntry.isWaiting_iff]
  · rw [State.probeEligible_iff, State.probeRecord_eq_none_iff, State.probeTarget_isSome_iff]
    exact ⟨fun ⟨pending, free, target, playing, open_, zone, rung⟩ => ⟨pending, playing, open_, free, zone, rung, target⟩,
      fun ⟨pending, playing, open_, free, zone, rung, target⟩ => ⟨pending, free, target, playing, open_, zone, rung⟩⟩
  · intro n as e bs window busy waits
    refine State.grantNormal_eq ?_
    rw [window, List.find?_eq_some_iff_append]
    exact ⟨WindowEntry.isWaiting_iff.mpr waits, as, bs, rfl, fun x hx => by
      simpa [← WindowEntry.isWaiting_iff] using busy x hx⟩
  · intro n r as e bs record window low waits above
    refine State.grantProbe_eq ?_
    unfold State.probeTarget
    rw [record, window, List.find?_eq_some_iff_append]
    refine ⟨by simp [WindowEntry.isWaiting_iff.mpr waits, above], as, bs, rfl, fun x hx => ?_⟩
    cases waiting : x.isWaiting with
    | false => rfl
    | true => simpa using low x hx (WindowEntry.isWaiting_iff.mp waiting)

end

section
namespace Sys2Proof.Machine

/-! ## Arbitration (O53) -/

variable {s t u : State} {n : Slot}

/-! ### The grants of an arbitration -/

/-- One grant, where one can be made (R129). -/
def State.grantOne (s : State) : State :=
  match s.nextNormal, s.nextProbe with
  | some n, _ => s.grantNormal n
  | none, some n => s.grantProbe n
  | none, none => s

/-- What every grant does: a slot was free and the transmit queue short, and a record is made, behind the others. -/
structure State.Granted (s t : State) : Prop where
  may : s.mayGrant = true
  records : ∃ r, t.pool.records = s.pool.records ++ [r]
  slotLimit : t.arb.slotLimit = s.arb.slotLimit

theorem State.grantNormal_granted (may : s.mayGrant = true) (next : s.nextNormal = some n) : s.Granted (s.grantNormal n) := by
  obtain ⟨e, target, -⟩ := State.target_of_normalEligible (State.eligible_of_nextNormal next)
  refine ⟨may, ?_, (s.grantNormal_shell n).slotLimit⟩
  rw [State.grantNormal_pool target, ← (s.takeDecision_blocks n (s.normalDecision n).2).pool]
  exact ⟨_, rfl⟩

theorem State.grantProbe_granted (may : s.mayGrant = true) (next : s.nextProbe = some n) : s.Granted (s.grantProbe n) := by
  obtain ⟨-, -, some, -⟩ := State.probeEligible_iff.mp (State.eligible_of_nextProbe next)
  obtain ⟨e, target⟩ := Option.isSome_iff_exists.mp some
  refine ⟨may, ?_, (s.grantProbe_shell n).slotLimit⟩
  rw [State.grantProbe_pool target]
  exact ⟨_, rfl⟩

/-- No grant can be made. -/
def State.Exhausted (s : State) : Prop := s.mayGrant = false ∨ (s.nextNormal = none ∧ s.nextProbe = none)

/-- The grants are grants one after the other, fewer than `k` only where no more can be made. -/
theorem State.grants_eq_iterate (k : Nat) : ∀ s : State, ∃ i ≤ k, State.grants k s = State.grantOne^[i] s ∧
    (∀ j, j < i → (State.grantOne^[j] s).Granted (State.grantOne^[j + 1] s)) ∧
    (i < k → (State.grantOne^[i] s).Exhausted) := by
  induction k with
  | zero => exact fun s => ⟨0, le_refl 0, rfl, nofun, nofun⟩
  | succ k ih =>
    intro s
    have more : ∀ {u : State}, s.grantOne = u → s.Granted u → ∃ i ≤ k + 1, State.grants k u = State.grantOne^[i] s ∧
        (∀ j, j < i → (State.grantOne^[j] s).Granted (State.grantOne^[j + 1] s)) ∧
        (i < k + 1 → (State.grantOne^[i] s).Exhausted) := fun {u} one granted => by
      obtain ⟨i, le, grants, each, last⟩ := ih u
      refine ⟨i + 1, by omega, ?_, fun j hj => ?_, fun lt => ?_⟩
      · rw [Function.iterate_succ_apply, one]; exact grants
      · cases j with
        | zero => rw [Function.iterate_succ_apply, one]; exact granted
        | succ j => rw [Function.iterate_succ_apply, Function.iterate_succ_apply, one]; exact each j (by omega)
      · rw [Function.iterate_succ_apply, one]; exact last (by omega)
    unfold State.grants
    split
    · rename_i may
      split
      · rename_i next
        exact more (by rw [State.grantOne, next]) (State.grantNormal_granted may next)
      · rename_i none next
        exact more (by rw [State.grantOne, none, next]) (State.grantProbe_granted may next)
      · rename_i none none'
        exact ⟨0, Nat.zero_le _, rfl, nofun, fun _ => .inr ⟨none, none'⟩⟩
    · rename_i not
      exact ⟨0, Nat.zero_le _, rfl, nofun, fun _ => .inl (Bool.eq_false_iff.mpr not)⟩

/-- After `i` grants `i` records are made, behind the others. -/
theorem State.records_of_granted {i : Nat}
    (each : ∀ j, j < i → (State.grantOne^[j] s).Granted (State.grantOne^[j + 1] s)) :
    s.pool.records <+: (State.grantOne^[i] s).pool.records ∧
      (State.grantOne^[i] s).pool.records.length = s.pool.records.length + i ∧
      (State.grantOne^[i] s).arb.slotLimit = s.arb.slotLimit := by
  induction i with
  | zero => exact ⟨List.prefix_refl _, rfl, rfl⟩
  | succ i ih =>
    obtain ⟨kept, length, limit⟩ := ih fun j hj => each j (by omega)
    obtain ⟨-, ⟨r, made⟩, limit'⟩ := each i (by omega)
    refine ⟨?_, ?_, limit'.trans limit⟩
    · rw [made]; exact kept.trans (List.prefix_append _ _)
    · rw [made, List.length_append, length]; rfl

theorem State.not_eligible_of_nextNormal_none (h : s.nextNormal = none) (n : Slot) : s.normalEligible n = false := by
  by_contra eligible
  have listed : n ∈ (rotation s.arb.rotation).filter s.normalEligible :=
    List.mem_filter.mpr ⟨mem_rotation _ n, Bool.eq_true_of_not_eq_false eligible⟩
  obtain ⟨x, found⟩ := s.mostUrgent_isSome (List.ne_nil_of_mem listed)
  rw [State.nextNormal, found] at h; cases h

theorem State.not_eligible_of_nextProbe_none (h : s.nextProbe = none) (n : Slot) : s.probeEligible n = false :=
  Bool.eq_false_iff.mpr (List.find?_eq_none.mp h n (mem_rotation _ n))

/-! ### The dry tests -/

/-- A raise may add a frame, and takes none. -/
theorem State.raise_queue_length_le (s : State) (n : Slot) (f : StreamFlag) :
    s.tx.queue.length ≤ (s.raise n f).tx.queue.length := by
  unfold State.raise
  split
  · exact le_refl _
  · have noted := State.noteIfTurned_queue (s := s)
      (t := s.modStream n fun st => { st with flags := st.flags ||| BitVec.twoPow 11 f.bit }) rfl
    rw [noted, List.length_append]
    exact Nat.le_add_right _ _

theorem State.dryTest_queue_length_le (n : Slot) (s : State) : s.tx.queue.length ≤ (s.dryTest n).tx.queue.length := by
  unfold State.dryTest
  split
  · exact s.raise_queue_length_le n .windowDry
  · exact le_refl _

/-- The stream after its dry test, `free` telling that it has no NORMAL or REFETCH record (R43). -/
def Stream.dryTested (st : Stream) (free : Bool) : Stream :=
  if st.active && (!st.hold && free && !st.window.any WindowEntry.isWaiting && !st.finalKnown) && st.dryArmed then
    { st with flags := withFlag st.flags StreamFlag.windowDry.bit, dryArmed := false }
  else st

theorem State.dryTest_stream (n : Slot) (s : State) (m : Slot) :
    (s.dryTest n).stream m = if n = m then (s.stream m).dryTested (s.normalRecord n).isNone else s.stream m := by
  unfold State.dryTest Stream.dryTested State.dry
  by_cases here : n = m
  · subst here
    rw [if_pos rfl]
    split
    · rw [State.stream_modStream_same, State.raise_stream, if_pos rfl]
    · rfl
  · rw [if_neg here]
    split
    · rw [State.stream_modStream, if_neg here, State.raise_stream, if_neg here]
    · rfl

/-- Each stream after the dry tests: one test does not bear on another, since none changes a record (R43). -/
theorem State.dryTests_stream (s : State) (m : Slot) :
    (s.forSlots State.dryTest).stream m = (s.stream m).dryTested (s.normalRecord m).isNone :=
  State.forSlots_stream_of (P := fun u => u.pool = s.pool) State.dryTest
    (fun n st => st.dryTested (s.normalRecord n).isNone) (fun n _ same => (State.dryTest_blocks n _).pool.trans same)
    (fun n u m same => by rw [State.dryTest_stream, State.normalRecord, same]; rfl) rfl m

/-! ### What grants leave of the dry tests -/

theorem getLsbD_withFlag_of_ne {w : Nat} {flags : BitVec w} {bit i : Nat} (h : i ≠ bit) :
    (withFlag flags bit).getLsbD i = flags.getLsbD i := by
  unfold withFlag
  simp only [BitVec.getLsbD_or, BitVec.getLsbD_twoPow, Ne.symm h, decide_false, Bool.and_false, Bool.or_false]

/-- Dry armed and WINDOW_DRY are as they were. -/
structure Stream.SameDry (a b : Stream) : Prop where
  armed : b.dryArmed = a.dryArmed
  flag : b.flags.getLsbD 3 = a.flags.getLsbD 3

theorem Stream.SameDry.trans {a b c : Stream} (h : a.SameDry b) (h' : b.SameDry c) : a.SameDry c :=
  ⟨h'.armed.trans h.armed, h'.flag.trans h.flag⟩

theorem Stream.measured_sameDry (st : Stream) : st.SameDry st.measured := by
  refine ⟨rfl, ?_⟩
  unfold Stream.measured
  dsimp only
  split
  · rfl
  · exact getLsbD_withFlag_of_ne (by decide)

theorem Stream.tested_sameDry (st : Stream) (now : Nat) : st.SameDry (st.tested now) := by
  unfold Stream.tested
  split <;> exact ⟨rfl, rfl⟩

theorem State.windowChanged_sameDry (s : State) (n : Slot) : (s.stream n).SameDry ((s.windowChanged n).stream n) := by
  rw [State.windowChanged_stream]
  exact (Stream.measured_sameDry _).trans (Stream.tested_sameDry _ _)

theorem State.takeDecision_sameDry (s : State) (n : Slot) (r : Nat) :
    (s.stream n).SameDry ((s.takeDecision n r).stream n) := by
  unfold State.takeDecision
  rw [State.raiseIf_stream, State.stream_modStream_same]
  split
  · exact ⟨rfl, getLsbD_withFlag_of_ne (by decide)⟩
  · exact ⟨rfl, rfl⟩

theorem State.makeRecord_sameDry (s : State) (n : Slot) (e : WindowEntry) (k : FetchKind) (rung : Nat) :
    (s.stream n).SameDry ((s.makeRecord n e k rung).stream n) := by
  rw [State.makeRecord_stream, if_pos rfl]
  exact ⟨rfl, rfl⟩

/-- The rotation pointers do not matter to that. -/
theorem State.windowChanged_sameDry_of_arb (s : State) (n : Slot) (a : Arbiter) :
    (s.stream n).SameDry ((State.windowChanged { s with arb := a } n).stream n) :=
  State.windowChanged_sameDry { s with arb := a } n

theorem State.grantNormal_sameDry (s : State) (n : Slot) : (s.stream n).SameDry ((s.grantNormal n).stream n) := by
  cases target : (s.stream n).window.find? WindowEntry.isWaiting with
  | none => unfold State.grantNormal; rw [target]; exact ⟨rfl, rfl⟩
  | some e =>
    have made := (s.takeDecision_sameDry n (s.normalDecision n).2).trans
      (State.makeRecord_sameDry _ n e (s.normalDecision n).1 (s.normalDecision n).2)
    rw [State.grantNormal_eq target]
    exact made.trans (State.windowChanged_sameDry_of_arb _ n _)

theorem State.grantProbe_sameDry (s : State) (n : Slot) : (s.stream n).SameDry ((s.grantProbe n).stream n) := by
  cases target : s.probeTarget n with
  | none => unfold State.grantProbe; rw [target]; exact ⟨rfl, rfl⟩
  | some e =>
    have probing : (s.stream n).SameDry
        ((s.modStream n fun st => { st with probePending := false, probeLive := true }).stream n) := by
      rw [State.stream_modStream_same]; exact ⟨rfl, rfl⟩
    have made := probing.trans (State.makeRecord_sameDry _ n e .probe ((s.stream n).current + 1))
    rw [State.grantProbe_eq target]
    exact made.trans (State.windowChanged_sameDry_of_arb _ n _)

theorem State.grantOne_sameDry (s : State) (m : Slot) : (s.stream m).SameDry (s.grantOne.stream m) := by
  have of_slot : ∀ {n : Slot} {t : State}, s.SameElsewhere n t → (s.stream n).SameDry (t.stream n) →
      (s.stream m).SameDry (t.stream m) := fun {n t} elsewhere own => by
    by_cases here : m = n
    · exact here ▸ own
    · rw [elsewhere m here]; exact ⟨rfl, rfl⟩
  unfold State.grantOne
  split
  · exact of_slot (s.grantNormal_elsewhere _) (s.grantNormal_sameDry _)
  · exact of_slot (s.grantProbe_elsewhere _) (s.grantProbe_sameDry _)
  · exact ⟨rfl, rfl⟩

theorem State.iterate_grantOne_sameDry (m : Slot) (i : Nat) : ∀ s : State,
    (s.stream m).SameDry ((State.grantOne^[i] s).stream m) := by
  induction i with
  | zero => exact fun _ => ⟨rfl, rfl⟩
  | succ i ih => exact fun s => (s.grantOne_sameDry m).trans (ih _)

/-- The dry test of a stream, spelled out (R43). -/
theorem Stream.dryTested_of_dry {st : Stream} {free : Bool} (active : st.active = true) (open_ : st.hold = false)
    (alone : free = true) (none : ∀ e ∈ st.window, e.state ≠ .waiting) (final : st.finalKnown = false)
    (armed : st.dryArmed = true) :
    (st.dryTested free).dryArmed = false ∧ (st.dryTested free).flags.getLsbD 3 = true := by
  have noWaiting : st.window.any WindowEntry.isWaiting = false :=
    List.any_eq_false.mpr fun e he waits => none e he (WindowEntry.isWaiting_iff.mp waits)
  unfold Stream.dryTested
  rw [if_pos (by simp [active, open_, alone, noWaiting, final, armed])]
  refine ⟨rfl, ?_⟩
  unfold withFlag
  simp [StreamFlag.bit]

theorem Stream.dryTested_of_not {st : Stream} {free : Bool}
    (not : ¬(st.active = true ∧ (st.hold = false ∧ free = true ∧ (∀ e ∈ st.window, e.state ≠ .waiting) ∧
      st.finalKnown = false) ∧ st.dryArmed = true)) : st.dryTested free = st := by
  refine if_neg fun dry => not ?_
  simp only [Bool.and_eq_true, Bool.not_eq_true', List.any_eq_false, WindowEntry.isWaiting_iff] at dry
  obtain ⟨⟨active, ⟨⟨open_, alone⟩, none⟩, final⟩, armed⟩ := dry
  exact ⟨active, ⟨open_, alone, none, final⟩, armed⟩

end Sys2Proof.Machine

open Sys2Proof Sys2Proof.Machine

/-- Settles O53: the grants as an iterate of one grant, each making a record with a slot free, so that eight exhaust a slot limit of
8; the dry tests stream by stream, of which grants leave armed and WINDOW_DRY alone. -/
theorem arbitrationGrantsAllItCan : Obligations.ArbitrationGrantsAllItCan := by
  intro s low t grant
  have tests := State.forSlots_blocks State.dryTest_blocks s
  have queue : s.tx.queue.length ≤ (s.forSlots State.dryTest).tx.queue.length :=
    State.forSlots_rel (R := fun a b => a.tx.queue.length ≤ b.tx.queue.length) Nat.le_trans State.dryTest_queue_length_le s
  obtain ⟨k, le, grants, each, last⟩ := State.grants_eq_iterate 8 (s.forSlots State.dryTest)
  have result : t = State.grantOne^[k] (s.forSlots State.dryTest) := grants
  have limits : ∀ j, j ≤ k → (State.grantOne^[j] (s.forSlots State.dryTest)).arb.slotLimit = s.arb.slotLimit := fun j hj =>
    (State.records_of_granted fun i hi => each i (by omega)).2.2.trans tests.slotLimit
  have could : ∀ j, j < k → (State.grantOne^[j] (s.forSlots State.dryTest)).pool.records.length < s.arb.slotLimit ∧
      (State.grantOne^[j] (s.forSlots State.dryTest)).tx.queue.length ≤ 20 := fun j hj => by
    obtain ⟨free, short⟩ := State.mayGrant_iff.mp (each j hj).may
    rw [limits j hj.le] at free
    exact ⟨free, short⟩
  obtain ⟨kept, length, -⟩ := State.records_of_granted each
  rw [← result, tests.pool] at kept length
  refine ⟨⟨k, le, result, could⟩, fun stop => ?_, fun free short n => ?_, kept, ?_, fun n => ?_, s.arbitrate_shell,
    s.arbitrate_contents⟩
  · have none : k = 0 := by
      by_contra some
      obtain ⟨free, short⟩ := could 0 (by omega)
      rw [Function.iterate_zero, id_eq] at free short
      rw [tests.pool] at free
      omega
    rw [none, Function.iterate_zero, id_eq] at result
    rw [result]
    exact ⟨tests.pool, tests.arb⟩
  · have limit : t.arb.slotLimit = s.arb.slotLimit := result ▸ limits k (le_refl k)
    have few : k < 8 := by omega
    rcases result ▸ last few with no | ⟨normal, probe⟩
    · have may : t.mayGrant = true := State.mayGrant_iff.mpr ⟨free, short⟩
      rw [no] at may; cases may
    · exact ⟨State.not_eligible_of_nextNormal_none normal n, State.not_eligible_of_nextProbe_none probe n⟩
  · cases k with
    | zero => rw [length]; exact le_max_left _ _
    | succ k =>
      have before := (could k (by omega)).1
      have count := (State.records_of_granted fun j hj => each j (Nat.lt_succ_of_lt hj)).2.1
      rw [count, tests.pool] at before
      rw [length]; omega
  · intro dry
    have same := State.iterate_grantOne_sameDry n k (s.forSlots State.dryTest)
    rw [← result, State.dryTests_stream] at same
    have alone : (s.normalRecord n).isNone = true ↔ ∀ r ∈ s.pool.records, r.slot = n → r.kind = .probe := by
      rw [Option.isNone_iff_eq_none, State.normalRecord_eq_none_iff]
    refine ⟨fun ⟨active, ⟨open_, free, waits, final⟩, armed⟩ => ?_, fun not => ?_⟩
    · obtain ⟨spent, raised⟩ := Stream.dryTested_of_dry active open_ (alone.mpr free) waits final armed
      exact ⟨same.armed.trans spent, same.flag.trans raised⟩
    · rw [Stream.dryTested_of_not fun dry => not (by rwa [alone] at dry)] at same
      exact ⟨same.armed, same.flag⟩

end

section
namespace Sys2Proof.Machine

/-! ## The transmitter (R55, R133, R156) -/

variable {s : State}

/-- The start of a FETCH changes the record of its tag, that of any other frame none (R55). -/
theorem State.announce_eq (s : State) (f : TxFrame) :
    s.announce f = s.setRecords (s.pool.records.map fun r =>
      if f.isFetchOf r.tag then { r with announcePending := false } else r) := by
  cases f with
  | fetch d => simp only [State.announce, State.changeRecord, TxFrame.isFetchOf, beq_iff_eq, eq_comm (a := d.tag)]
  | hello _ | drop _ _ | gate _ _ _ | note | reply _ _ =>
    simp only [State.announce, TxFrame.isFetchOf, Bool.false_eq_true, if_false, List.map_id']
    rfl

/-- The head frame under transmission, and the arbitration of a queue that falls to 20 frames (R133). -/
theorem State.startFrame_eq (s : State) (f : TxFrame) (q : List TxFrame) :
    s.startFrame f q = if q.length = 20 then (transmitting s f q).arbitrate else transmitting s f q := by
  unfold State.startFrame
  dsimp only
  rw [State.announce_eq]
  rfl

theorem State.next_transmitStart_of_head {f : TxFrame} {q : List TxFrame} (running : s.phase = .running)
    (idle : s.tx.sending = none) (head : s.tx.queue = f :: q) : exec .transmitStart s = .next (s.startFrame f q) := by
  change execTransmitStart s = _
  rw [execTransmitStart, State.whenRunning_of_running running, idle, head]

theorem State.next_transmitStart_of_nothing (running : s.phase = .running) (h : s.tx.sending ≠ none ∨ s.tx.queue = []) :
    exec .transmitStart s = .next s := by
  change execTransmitStart s = _
  rw [execTransmitStart, State.whenRunning_of_running running]
  cases sending : s.tx.sending with
  | some f => rfl
  | none => rw [h.resolve_left fun busy => busy sending]

/-! ## Records by their tags (R44) -/

variable {tag : Nat} {r : Record}

theorem State.tag_of_recordOf (h : s.recordOf tag = some r) : r.tag = tag :=
  beq_iff_eq.mp (List.find?_some (p := fun r : Record => r.tag == tag) h)

theorem Record.isNormal_eq_false_iff : r.isNormal = false ↔ r.kind = .probe := bne_eq_false_iff_eq

theorem Record.isNormal_of_ne_probe (h : r.kind ≠ .probe) : r.isNormal = true := Record.isNormal_iff.mpr h

/-! ## The RECORD view (R67, R168) -/

theorem State.checkQuery_record_of_live (small : tag < 256) (named : tag ≠ 0) (live : s.recordOf tag = some r) :
    s.checkQuery [3, byte tag] = .ok (r.view s.now) := by
  simp only [State.checkQuery, parseQuery_record small, live, if_neg named]

/-- Tag 0 names no record, a tag that no live record holds is stale. -/
theorem State.checkQuery_record_of_stale (small : tag < 256) (stale : tag = 0 ∨ s.recordOf tag = none) :
    s.checkQuery [3, byte tag] = .error .staleTag := by
  simp only [State.checkQuery, parseQuery_record small]
  cases found : s.recordOf tag with
  | none => rfl
  | some r => exact if_pos (stale.resolve_right (by rw [found]; exact nofun))

theorem State.execQueryRecord_eq (s : State) (small : tag < 256) : exec (.queryRecord [3, byte tag]) s =
    .next (s.request 0x06 [3, byte tag] (fun s => s.checkQuery [3, byte tag]) fun view s => s.reply 0x06 .ok view) := by
  have own : queryRecordRow [3, byte tag] = true := by rw [queryRecordRow, parseQuery_record small]
  change execQueryRecord _ s = _
  rw [execQueryRecord, State.requestIf, if_pos own]

/-! ## The checks of a report (R59) -/

variable {bytes reason : Nat}

/-- A report reaches the live, announced record of its tag. -/
theorem State.reachable_of_announced (named : tag ≠ 0) (live : s.recordOf tag = some r) (announced : r.announcePending = false) :
    s.reachable tag = some r := by
  rw [State.reachable, live]
  exact if_pos ⟨named, announced⟩

/-- A report reaches nothing by tag 0, by a tag that no live record holds or before the record is announced. -/
theorem State.reachable_eq_none (h : tag = 0 ∨ ∀ r, s.recordOf tag = some r → r.announcePending = true) :
    s.reachable tag = none := by
  unfold State.reachable
  split
  · rename_i r live
    refine if_neg fun ⟨named, announced⟩ => ?_
    have pending := h.resolve_left named r live
    rw [announced] at pending
    cases pending
  · rfl

/-- A count of a record that the report reaches, not below the bytes reported. -/
theorem State.checkCount_of_reachable {q : CountReq} (tag : q.tag < 256) (bytes : q.bytes < 2 ^ 32)
    (reached : s.reachable q.tag = some r) (forward : r.reported ≤ q.bytes) : s.checkCount (countBody q) = .ok (r, q.bytes) := by
  simp only [State.checkCount, parseCount_countBody tag bytes, reached, if_neg (Nat.not_lt.mpr forward)]

theorem State.checkCount_of_backwards {q : CountReq} (tag : q.tag < 256) (bytes : q.bytes < 2 ^ 32)
    (reached : s.reachable q.tag = some r) (backwards : q.bytes < r.reported) :
    s.checkCount (countBody q) = .error .badField := by
  simp only [State.checkCount, parseCount_countBody tag bytes, reached, if_pos backwards]

theorem State.checkCount_of_stale {q : CountReq} (tag : q.tag < 256) (bytes : q.bytes < 2 ^ 32)
    (stale : s.reachable q.tag = none) : s.checkCount (countBody q) = .error .staleTag := by
  simp only [State.checkCount, parseCount_countBody tag bytes, stale]

theorem State.checkBroken_of_reachable (small : tag < 256) (one : 1 ≤ reason) (four : reason ≤ 4)
    (reached : s.reachable tag = some r) : s.checkBroken (brokenBody tag reason) = .ok r := by
  simp only [State.checkBroken, parseBroken_brokenBody small one four, reached]

theorem State.checkBroken_of_stale (small : tag < 256) (one : 1 ≤ reason) (four : reason ≤ 4)
    (stale : s.reachable tag = none) : s.checkBroken (brokenBody tag reason) = .error .staleTag := by
  simp only [State.checkBroken, parseBroken_brokenBody small one four, stale]

/-- A reason outside 1 to 4 is refused before the tag is looked at. -/
theorem State.checkBroken_of_reason (s : State) (tag : Nat) (small : reason < 256) (out : reason = 0 ∨ 4 < reason) :
    s.checkBroken (brokenBody tag reason) = .error .badField := by
  have read : field (brokenBody tag reason) 1 1 = reason := beNat_one small
  have refused : parseBroken (brokenBody tag reason) = .error .badField :=
    (parseBroken_refused _).2 rfl (decide_eq_true (by rwa [read]))
  rw [State.checkBroken, refused]

theorem State.next_tally_of_error {body : List Byte} {e : Status} (door : s.atDoor ⟨0x18, body⟩)
    (refused : s.popFrame.checkCount body = .error e) : exec (.tally body) s = .next (s.popFrame.pushTx (.reply 0x98 [e.code])) :=
  State.next_request_of_error (check := fun s => s.checkCount body) door refused

theorem State.next_landed_of_error {body : List Byte} {e : Status} (door : s.atDoor ⟨0x19, body⟩)
    (refused : s.popFrame.checkCount body = .error e) : exec (.landed body) s = .next (s.popFrame.pushTx (.reply 0x99 [e.code])) :=
  State.next_request_of_error (check := fun s => s.checkCount body) door refused

theorem State.next_broken_of_error {body : List Byte} {e : Status} (door : s.atDoor ⟨0x1A, body⟩)
    (refused : s.popFrame.checkBroken body = .error e) : exec (.broken body) s = .next (s.popFrame.pushTx (.reply 0x9A [e.code])) :=
  State.next_request_of_error (check := fun s => s.checkBroken body) door refused

/-! ## The acts of LANDED, BROKEN and the deadlines -/

/-- The stream lands its entry and moves what can move, in one change of the stream (R32, R71). -/
theorem State.landEntry_contiguousMove (s : State) (n : Slot) (seg rung bytes : Nat)
    {moved : List (WindowEntry × Nat × Nat)} {stay : List WindowEntry} (stays : headNotLanded stay)
    (landed : changeEntry seg (fun e => { e with state := .landedEarly rung bytes }) (s.stream n).window =
      moved.map landedEntry ++ stay) :
    (s.landEntry n seg rung bytes).contiguousMove n =
      (s.setStream n ((s.stream n).afterMove moved stay)).windowChanged n := by
  rw [State.landEntry, State.contiguousMove, State.modStream_modStream, State.modStream_eq, Stream.moved_eq stays landed]
  rfl

/-- The return of an entry to WAITING is a change of its stream's window (R33). -/
theorem State.returnEntry_eq (s : State) (n : Slot) (seg : Nat) :
    s.returnEntry n seg = s.setStream n
      { s.stream n with window := (s.stream n).window.map fun e => if e.segment = seg then { e with state := .waiting } else e } :=
  rfl

/-- A drop's record and queue, its stream written once (R51, R56, R58). -/
theorem State.dropRecord_eq (s : State) (r : Record) (d : DropReason) :
    s.dropRecord r d =
      ({ s with
        pool := { s.pool with records := s.pool.records.filter fun x => x.tag != r.tag },
        tx := { s.tx with queue := queueAfterDrop s.tx.queue r d } } : State).setStream r.slot
          { s.stream r.slot with prevGrant := if r.announcePending then none else (s.stream r.slot).prevGrant } := by
  unfold State.dropRecord queueAfterDrop
  cases r.announcePending with
  | true => rfl
  | false => exact (State.setStream_stream_self ((s.freeRecord r.tag).pushTx (.drop r.tag d)) r.slot).symm

/-- The expiry of a tag by its record's class: a deadline ends a NORMAL or REFETCH record alone (R64). -/
theorem State.next_deadlineExpiry (running : s.phase = .running) (live : s.recordOf tag = some r) :
    exec (.deadlineExpiry tag) s =
      .next (if r.isNormal then ((s.reach r.deadline).expireNormal r).arbitrate else s) := by
  change execDeadlineExpiry tag s = _
  rw [execDeadlineExpiry, State.whenRunning_of_running running, live]

/-- A probe deadline ends a PROBE record alone (R65). -/
theorem State.next_probeDeadlineExpiry (running : s.phase = .running) (live : s.recordOf tag = some r) :
    exec (.probeDeadlineExpiry tag) s =
      .next (if r.isNormal then s else ((s.reach r.deadline).failProbe r .deadline).arbitrate) := by
  change execProbeDeadlineExpiry tag s = _
  rw [execProbeDeadlineExpiry, State.whenRunning_of_running running, live]

/-- The deadlines of a tag that no live record holds are no events (R53, R66). -/
theorem State.next_expiries_of_none (running : s.phase = .running) (none : s.recordOf tag = none) :
    exec (.deadlineExpiry tag) s = .next s ∧ exec (.probeDeadlineExpiry tag) s = .next s := by
  constructor
  · change execDeadlineExpiry tag s = _
    rw [execDeadlineExpiry, State.whenRunning_of_running running, none]
  · change execProbeDeadlineExpiry tag s = _
    rw [execProbeDeadlineExpiry, State.whenRunning_of_running running, none]

end Sys2Proof.Machine

open Sys2Proof Sys2Proof.Machine

/-- Settles O8: the start of the head frame by what it does to the records, and by the length of the queue left. -/
theorem transmitterSendsTheQueueInOrder : Obligations.TransmitterSendsTheQueueInOrder := by
  intro s running
  refine ⟨fun f q idle head full => ?_, fun f q idle head other => ?_, State.next_transmitStart_of_nothing running, ?_⟩
  · rw [State.next_transmitStart_of_head running idle head, State.startFrame_eq, if_pos full]
  · rw [State.next_transmitStart_of_head running idle head, State.startFrame_eq, if_neg other]
  · exact congrArg _ (State.whenRunning_of_running running _)

/-- Settles O23: the checks of the view by the record that the tag finds. -/
theorem recordViewReportsTheRecord : Obligations.RecordViewReportsTheRecord := by
  intro s tag small door
  rw [State.execQueryRecord_eq s small]
  refine ⟨fun r named live => ?_, fun stale => ?_⟩
  · exact (State.next_request_of_ok door (State.checkQuery_record_of_live small named live)).trans rfl
  · exact State.next_request_of_error (check := fun s => s.checkQuery [3, byte tag]) door
      (State.checkQuery_record_of_stale small stale)

/-- Settles O35: the report reaches its record, whose tag is the report's. -/
theorem tallyCountsProgress : Obligations.TallyCountsProgress := by
  intro s q r tag bytes named live announced forward door
  have reached : s.popFrame.reachable q.tag = some r := State.reachable_of_announced named live announced
  refine (State.next_request_of_ok door (State.checkCount_of_reachable tag bytes reached forward)).trans ?_
  dsimp only
  rw [State.tag_of_recordOf live]
  rfl

/-- Settles O36: each check's refusal in the order of R59. -/
theorem reportsThatFindNoRecordChangeNothing : Obligations.ReportsThatFindNoRecordChangeNothing := by
  intro s tag small
  refine ⟨fun absent => ?_, fun r bytes named live announced backwards fits => ?_, fun reason byteSized out door => ?_⟩
  · have stale : s.popFrame.reachable tag = none := State.reachable_eq_none absent
    exact ⟨fun _ fits door => State.next_tally_of_error door (State.checkCount_of_stale small fits stale),
      fun _ fits door => State.next_landed_of_error door (State.checkCount_of_stale small fits stale),
      fun _ one four door => State.next_broken_of_error door (State.checkBroken_of_stale small one four stale)⟩
  · have reached : s.popFrame.reachable tag = some r := State.reachable_of_announced named live announced
    have refused := State.checkCount_of_backwards (q := ⟨tag, bytes⟩) small fits reached backwards
    exact ⟨fun door => State.next_tally_of_error door refused, fun door => State.next_landed_of_error door refused⟩
  · exact State.next_broken_of_error door (State.checkBroken_of_reason s.popFrame tag byteSized out)

/-- Settles O37: the landing and the move are one change of the stream; the rest goes by the record's kind. -/
theorem landedMovesTheSegmentIn : Obligations.LandedMovesTheSegmentIn := by
  intro s q r tag bytes named live announced forward door st moved stay stays landed p p'
  have reached : s.popFrame.reachable q.tag = some r := State.reachable_of_announced named live announced
  have acts : exec (.landed (countBody q)) s = .next ((s.popFrame.landAct r q.bytes).arbitrate.reply 0x19 .ok []) :=
    State.next_request_of_ok (check := fun s => s.checkCount _) (a := (r, q.bytes)) door
      (State.checkCount_of_reachable tag bytes reached forward)
  have landing : s.popFrame.landAct r q.bytes = p.landingReported r := by
    rw [State.landAct, State.tag_of_recordOf live, State.landEntry_contiguousMove
      ((s.popFrame.countBytes (q.bytes - r.reported)).freeRecord q.tag) r.slot r.segment r.rung q.bytes stays landed]
    rfl
  rw [acts, landing, State.landingReported]
  refine ⟨fun probe => ?_, fun normal => ?_⟩
  · rw [Record.isNormal_eq_false_iff.mpr probe]
    rfl
  · rw [Record.isNormal_of_ne_probe normal]
    rfl

/-- Settles O38: the freed record's kind decides between the failure claim and the probe failure. -/
theorem brokenFailsTheFetch : Obligations.BrokenFailsTheFetch := by
  intro s tag reason r small named one four live announced door st freed waiting
  have reached : s.popFrame.reachable tag = some r := State.reachable_of_announced named live announced
  have acts : exec (.broken (brokenBody tag reason)) s = .next ((s.popFrame.breakAct r).arbitrate.reply 0x1A .ok []) :=
    State.next_request_of_ok (check := fun s => s.checkBroken _) door
      (State.checkBroken_of_reachable small one four reached)
  have free : s.popFrame.freeRecord r.tag = freed := by rw [State.tag_of_recordOf live]; rfl
  rw [acts, State.breakAct, free]
  refine ⟨fun normal => ?_, fun probe => ?_⟩
  · rw [Record.isNormal_of_ne_probe normal]
    rfl
  · rw [Record.isNormal_eq_false_iff.mpr probe, State.returnEntry_eq]
    rfl

/-- Settles O43: the expiry by the class of the record that the tag finds; a drop's stream is written once. -/
theorem deadlinesEndTheirRecords : Obligations.DeadlinesEndTheirRecords := by
  intro s tag running
  refine ⟨fun r live normal => ?_, fun r live probe => ?_, State.next_expiries_of_none running⟩
  · have isNormal := Record.isNormal_of_ne_probe normal
    rw [State.next_deadlineExpiry running live, State.next_probeDeadlineExpiry running live, if_pos isNormal, if_pos isNormal]
    refine ⟨?_, rfl⟩
    rw [State.expireNormal, State.dropRecord_eq, State.tag_of_recordOf live, State.reach_pool, State.reach_tx,
      State.reach_stream]
  · have isProbe : ¬r.isNormal = true := by rw [Record.isNormal_eq_false_iff.mpr probe]; exact Bool.false_ne_true
    rw [State.next_deadlineExpiry running live, State.next_probeDeadlineExpiry running live, if_neg isProbe, if_neg isProbe]
    exact ⟨rfl, rfl⟩

end

section
namespace Sys2Proof.Machine

/-! ## POSITION (R89, R90) -/

variable {s t : State} {n : Slot} {seg off : Nat}

/-- The first entry of the segment decides a resynchronisation (R89, R90). -/
theorem resync_append_cons {ahead rest : List BufferEntry} {b : BufferEntry} (before : ∀ x ∈ ahead, x.segment ≠ seg)
    (named : b.segment = seg) :
    resync seg off (ahead ++ b :: rest) =
      if off < b.duration then some ({ b with remaining := b.duration - off } :: rest) else none := by
  induction ahead with
  | nil => exact if_pos named
  | cons x ahead ih =>
    obtain ⟨other, others⟩ := List.forall_mem_cons.mp before
    rw [List.cons_append, resync, if_neg other, ih others]

/-- A queue without the segment has no place for the position (R89). -/
theorem resync_eq_none_of_absent {queue : List BufferEntry} (absent : ∀ b ∈ queue, b.segment ≠ seg) :
    resync seg off queue = none := by
  induction queue with
  | nil => rfl
  | cons b queue ih =>
    obtain ⟨other, others⟩ := List.forall_mem_cons.mp absent
    rw [resync, if_neg other, ih others]

theorem Stream.positionAllowed_iff (st : Stream) :
    st.positionAllowed = true ↔ st.state = .playing ∨ st.state = .paused ∨ st.state = .rebuffering := by
  unfold Stream.positionAllowed
  cases st.state <;> simp

/-- The states that POSITION accepts are active ones (R9, R89). -/
theorem Stream.active_of_positionAllowed {st : Stream} (allowed : st.positionAllowed = true) : st.active = true := by
  rcases st.positionAllowed_iff.mp allowed with state | state | state <;> simp [Stream.active, state]

/-! ### The buffer queue's change and its arbitration -/

/-- The report of a change leaves the occupancy as the change made it (R79, R90 step 4). -/
theorem State.windowChanged_occupancy (s : State) (n : Slot) :
    ((s.windowChanged n).stream n).occupancy = (s.stream n).occupancy := by
  unfold Stream.occupancy
  rw [(s.windowChanged_contents n n).buffer]

/-- The arbitration after an event of one active stream that frees no record: for a hold that cleared (R83, R128). -/
theorem State.settle_of_active (active : (s.stream n).active = true) (pool : t.pool = s.pool)
    (elsewhere : s.SameElsewhere n t) :
    t.settle s = if (s.stream n).hold = true ∧ (t.stream n).hold = false then t.arbitrate else t := by
  rw [State.settle_eq n fun m other => by rw [elsewhere m other]; exact ⟨rfl, rfl⟩, active, pool]
  simp only [lt_irrefl, false_or, Bool.true_eq_false, false_and, or_false]

/-- A reported change of an active stream is settled as an arbitration exactly where its hold cleared (R83, R90 step 4). -/
theorem State.settle_setStream_windowChanged (active : (s.stream n).active = true) (st : Stream) :
    ((s.setStream n st).windowChanged n).settle s =
      if (s.stream n).hold = true ∧ (((s.setStream n st).windowChanged n).stream n).hold = false then
        ((s.setStream n st).windowChanged n).arbitrate
      else (s.setStream n st).windowChanged n :=
  State.settle_of_active active (State.windowChanged_blocks _ n).pool
    ((s.modStream_elsewhere n fun _ => st).trans (State.windowChanged_elsewhere _ n))

/-! ### The checks and their outcomes -/

variable {r : PositionReq} (segment : r.segment < 2 ^ 32) (offset : r.offset ≤ 9999)
include segment offset

/-- In the states that accept it a POSITION is decided by its buffer queue (R89). -/
theorem State.checkPosition_of_allowed (allowed : (s.stream r.slot).positionAllowed = true) :
    s.checkPosition (positionBody r) =
      ((resync r.segment r.offset (s.stream r.slot).buffer).elim (.error .outOfRange) fun bs => .ok (r.slot, bs)) := by
  have opened : (s.stream r.slot).state ≠ .closed := fun closed => by
    simp [Stream.positionAllowed, closed] at allowed
  simp only [State.checkPosition, State.openStream_of_open (slot := PositionReq.slot)
    (parsePosition_positionBody segment offset) opened, if_pos allowed]
  cases resync r.segment r.offset (s.stream r.slot).buffer <;> rfl

/-- A POSITION in another state of an open slot is refused (R89). -/
theorem State.checkPosition_of_refused (opened : (s.stream r.slot).state ≠ .closed)
    (refused : (s.stream r.slot).positionAllowed = false) :
    s.checkPosition (positionBody r) = .error .wrongState := by
  simp only [State.checkPosition, State.openStream_of_open (slot := PositionReq.slot)
    (parsePosition_positionBody segment offset) opened, refused, Bool.false_eq_true, if_false]

/-- A POSITION that its queue has a place for: the queue from there on, reported and settled (R90). -/
theorem State.next_position_of_resync (door : s.atDoor ⟨0x16, positionBody r⟩)
    (allowed : (s.stream r.slot).positionAllowed = true) {queue : List BufferEntry}
    (found : resync r.segment r.offset (s.stream r.slot).buffer = some queue) {p : State}
    (changed : p = (s.popFrame.setStream r.slot { s.stream r.slot with buffer := queue, acc := 0 }).windowChanged r.slot) :
    exec (.position (positionBody r)) s =
      .next ((if (s.stream r.slot).hold = true ∧ (p.stream r.slot).hold = false then p.arbitrate else p).pushTx
        (.reply 0x96 (0x00 :: beBytes 3 (queue.map BufferEntry.remaining).sum))) := by
  have passed : s.popFrame.checkPosition (positionBody r) = .ok (r.slot, queue) := by
    rw [State.checkPosition_of_allowed (s := s.popFrame) segment offset allowed, State.popFrame_stream, found]; rfl
  have modified : (s.popFrame.modStream r.slot fun st => { st with buffer := queue, acc := 0 }).windowChanged r.slot = p :=
    changed.symm
  have acts : exec (.position (positionBody r)) s =
      .next ((p.settle s.popFrame).reply 0x16 .ok (beBytes 3 (p.stream r.slot).occupancy)) := by
    rw [← modified]
    change execPosition (positionBody r) s = _
    unfold execPosition
    rw [State.next_request_of_ok door passed]
  have settled := State.settle_setStream_windowChanged (s := s.popFrame) (n := r.slot)
    (Stream.active_of_positionAllowed allowed) { s.stream r.slot with buffer := queue, acc := 0 }
  rw [← changed] at settled
  have occupancy : (p.stream r.slot).occupancy = (queue.map BufferEntry.remaining).sum := by
    rw [changed, State.windowChanged_occupancy, State.stream_setStream_same]; rfl
  rw [acts, settled, occupancy]
  rfl

/-- A POSITION that its queue has no place for is OUT_OF_RANGE (R89). -/
theorem State.next_position_of_no_place (door : s.atDoor ⟨0x16, positionBody r⟩)
    (allowed : (s.stream r.slot).positionAllowed = true)
    (none : resync r.segment r.offset (s.stream r.slot).buffer = none) :
    exec (.position (positionBody r)) s = .next (s.popFrame.pushTx (.reply 0x96 [0x0A])) := by
  refine State.next_request_of_error (check := fun s => s.checkPosition (positionBody r)) (e := .outOfRange) door ?_
  rw [State.checkPosition_of_allowed (s := s.popFrame) segment offset allowed, State.popFrame_stream, none]; rfl

end Sys2Proof.Machine

open Sys2Proof Sys2Proof.Machine

/-- Settles O33: the first entry of the segment, or its absence, decides the resynchronisation, and that the outcome. -/
theorem positionResynchronisesTheQueue : Obligations.PositionResynchronisesTheQueue := by
  intro s r segment offset door st allowed
  have accepted : allowed → st.positionAllowed = true := st.positionAllowed_iff.mpr
  refine ⟨fun ok ahead b rest buffer before named within => ?_, fun ok absent => ?_,
    fun ok ahead b rest buffer before named past => ?_, fun state => ?_⟩
  · have found := (resync_append_cons (rest := rest) before named).trans (if_pos within)
    rw [← buffer] at found
    exact ⟨_, rfl, State.next_position_of_resync segment offset door (accepted ok) found rfl⟩
  · exact State.next_position_of_no_place segment offset door (accepted ok) (resync_eq_none_of_absent absent)
  · have nowhere := (resync_append_cons (rest := rest) before named).trans (if_neg past.not_gt)
    rw [← buffer] at nowhere
    exact State.next_position_of_no_place segment offset door (accepted ok) nowhere
  · have opened : st.state ≠ .closed := by rcases state with h | h | h <;> rw [h] <;> exact nofun
    have refused : st.positionAllowed = false := by rcases state with h | h | h <;> simp [Stream.positionAllowed, h]
    exact State.next_request_of_error (check := fun s => s.checkPosition (positionBody r)) door
      (State.checkPosition_of_refused (s := s.popFrame) segment offset opened refused)

end

section
namespace Sys2Proof.Machine

/-! ## Capacity: what U and the shares are computed from (O59) -/

/-- What the allocation reads of a stream: priority, guard rung and ladder of an active one, nothing of another (R122). -/
def Stream.demand (st : Stream) : Option (Nat × Nat × List Rung) :=
  if st.active then some (st.cfg.priority, st.cfg.guardRung, st.ladder) else none

/-- A stream's part in the capacity: what the allocation reads of it, and what it gave it. -/
def Stream.stake (st : Stream) : Option (Nat × Nat × List Rung) × Nat := (st.demand, st.share)

theorem Stream.demand_isSome (st : Stream) : st.demand.isSome = st.active := by
  unfold Stream.demand; split <;> simp_all

theorem Stream.demand_of_active {st : Stream} (h : st.active = true) :
    st.demand = some (st.cfg.priority, st.cfg.guardRung, st.ladder) := if_pos h

theorem Stream.demand_of_inactive {st : Stream} (h : st.active = false) : st.demand = none :=
  if_neg (by rw [h]; exact Bool.false_ne_true)

theorem Stream.active_of_demand {a b : Stream} (h : b.demand = a.demand) : b.active = a.active := by
  rw [← Stream.demand_isSome, h, Stream.demand_isSome]

/-- Active streams of one demand are alike to the allocation. -/
theorem Stream.fields_of_demand {a b : Stream} (h : b.demand = a.demand) (active : a.active = true) :
    b.cfg.priority = a.cfg.priority ∧ b.cfg.guardRung = a.cfg.guardRung ∧ b.ladder = a.ladder := by
  have active' := (Stream.active_of_demand h).trans active
  rw [Stream.demand_of_active active, Stream.demand_of_active active'] at h
  simpa using h

/-- Inactive streams of one share have one stake. -/
theorem Stream.stake_of_inactive {a b : Stream} (ha : a.active = false) (hb : b.active = false) (share : b.share = a.share) :
    b.stake = a.stake :=
  Prod.ext ((Stream.demand_of_inactive hb).trans (Stream.demand_of_inactive ha).symm) share

variable {s t u : State} (n : Slot)

theorem State.guardOrder_of_demand (h : ∀ m, (t.stream m).demand = (s.stream m).demand) : t.guardOrder = s.guardOrder := by
  unfold State.guardOrder
  refine List.flatMap_congr fun p _ => List.filter_congr fun m _ => ?_
  rw [Stream.active_of_demand (h m)]
  cases active : (s.stream m).active with
  | false => rfl
  | true => rw [(Stream.fields_of_demand (h m) active).1]

/-- The guard pass reads the settings and the demand of the active streams it visits (R122). -/
theorem State.guardPass_of_demand (sharing : t.sharing = s.sharing)
    (h : ∀ m, (t.stream m).demand = (s.stream m).demand) (ns : List Slot) (active : ∀ m ∈ ns, (s.stream m).active = true) :
    ∀ r, t.guardPass r ns = s.guardPass r ns := by
  induction ns with
  | nil => exact fun _ => rfl
  | cons m ns ih =>
    intro r
    obtain ⟨priority, guard, ladder⟩ := Stream.fields_of_demand (h m) (active m List.mem_cons_self)
    have rest := ih fun k hk => active k (List.mem_cons_of_mem _ hk)
    simp only [State.guardPass, State.baseOf, Stream.rate, Stream.top, sharing, priority, guard, ladder, rest]

/-- The allocation reads the settings and the demands (R120 to R123). -/
theorem State.allocation_of_demand (sharing : t.sharing = s.sharing)
    (h : ∀ m, (t.stream m).demand = (s.stream m).demand) (u : Nat) : t.allocation u = s.allocation u := by
  unfold State.allocation
  rw [State.guardOrder_of_demand h, State.guardPass_of_demand sharing h _ fun _ => State.mem_guardOrder]

/-- Estimator, zone, settings and every stream's stake are as before: all that `State.capacityCurrent` speaks of. -/
structure State.SameCapacity (s t : State) : Prop where
  est : t.est = s.est
  zone : t.cls.zone = s.cls.zone
  sharing : t.sharing = s.sharing
  stake : ∀ m, (t.stream m).stake = (s.stream m).stake

theorem State.SameCapacity.refl (s : State) : s.SameCapacity s := ⟨rfl, rfl, rfl, fun _ => rfl⟩

theorem State.SameCapacity.trans (x : s.SameCapacity t) (y : t.SameCapacity u) : s.SameCapacity u :=
  ⟨y.est.trans x.est, y.zone.trans x.zone, y.sharing.trans x.sharing, fun m => (y.stake m).trans (x.stake m)⟩

/-- The estimates and the trim lie in their ranges, and E is the lower of F and S (R93, R97, R101). -/
def Estimator.inRange (e : Estimator) : Prop :=
  e.fast ≤ 1000000 ∧ e.slow ≤ 1000000 ∧ e.estimate = min e.fast e.slow ∧ e.intervalBytes ≤ 4294967295 ∧
    8 ≤ e.sagTrim ∧ e.sagTrim ≤ 16

/-- Estimates, trim and link ceiling lie in their ranges: what U and the shares need to be computed afresh. -/
def State.capacityInRange (s : State) : Prop := s.est.inRange ∧ s.sharing.linkCeiling ≤ 1000000

theorem State.capacityCurrent_iff (s : State) :
    s.capacityCurrent ↔ s.capacityInRange ∧ s.est.usable = s.usableNow ∧
      ∀ m, (s.stream m).share = shareIn (s.allocation s.est.usable) m :=
  ⟨fun ⟨fast, slow, lower, bytes, low, high, ceiling, usable, shares⟩ =>
    ⟨⟨⟨fast, slow, lower, bytes, low, high⟩, ceiling⟩, usable, shares⟩,
   fun ⟨⟨⟨fast, slow, lower, bytes, low, high⟩, ceiling⟩, usable, shares⟩ =>
    ⟨fast, slow, lower, bytes, low, high, ceiling, usable, shares⟩⟩

theorem State.capacityCurrent.inRange (h : s.capacityCurrent) : s.capacityInRange := (s.capacityCurrent_iff.mp h).1

theorem State.capacityCurrent.usable (h : s.capacityCurrent) : s.est.usable = s.usableNow := (s.capacityCurrent_iff.mp h).2.1

theorem State.usableNow_congr (est : t.est = s.est) (zone : t.cls.zone = s.cls.zone) (sharing : t.sharing = s.sharing) :
    t.usableNow = s.usableNow := by
  simp only [State.usableNow, est, zone, sharing]

theorem State.capacityCurrent.congr (h : s.capacityCurrent) (e : s.SameCapacity t) : t.capacityCurrent := by
  obtain ⟨est, zone, sharing, stake⟩ := e
  obtain ⟨⟨range, ceiling⟩, usable, shares⟩ := s.capacityCurrent_iff.mp h
  refine t.capacityCurrent_iff.mpr ⟨⟨est ▸ range, sharing ▸ ceiling⟩, ?_, fun m => ?_⟩
  · rw [State.usableNow_congr est zone sharing, est]; exact usable
  · rw [State.allocation_of_demand sharing fun m => congrArg Prod.fst (stake m), est]
    exact (congrArg Prod.snd (stake m)).trans (shares m)

/-- The allocation re-run makes the shares current where U is (R124). -/
theorem State.reallocate_capacityCurrent (range : s.capacityInRange) (usable : s.est.usable = s.usableNow) :
    s.reallocate.capacityCurrent := by
  have blocks := s.reallocate_blocks
  refine (State.capacityCurrent_iff _).mpr ⟨⟨blocks.est ▸ range.1, blocks.sharing ▸ range.2⟩, ?_, fun m => ?_⟩
  · rw [State.usableNow_congr blocks.est (congrArg Classifier.zone blocks.cls) blocks.sharing, blocks.est]; exact usable
  · rw [State.reallocate_allocation, State.reallocate_stream, blocks.est]

/-- U recomputed makes U and the shares current (R105). -/
theorem State.recomputeUsable_capacityCurrent (range : s.capacityInRange) : s.recomputeUsable.capacityCurrent :=
  State.reallocate_capacityCurrent range rfl

/-- The allocation re-run after a change of streams, records and queue alone. -/
theorem State.capacityCurrent.reallocate (h : s.capacityCurrent) (e : s.SameShell t) : t.reallocate.capacityCurrent := by
  refine State.reallocate_capacityCurrent ⟨e.est ▸ h.inRange.1, e.sharing ▸ h.inRange.2⟩ ?_
  rw [State.usableNow_congr e.est (congrArg Classifier.zone e.cls) e.sharing, e.est]
  exact h.usable

theorem State.capacityCurrent.share_of_inactive (h : s.capacityCurrent) {m : Slot} (inactive : (s.stream m).active = false) :
    (s.stream m).share = 0 := by
  obtain ⟨-, -, shares⟩ := s.capacityCurrent_iff.mp h
  rw [shares, State.shareIn_of_inactive inactive]

/-- With no stream active, and so no share, U is all that has to be current. -/
theorem State.capacityCurrent_of_inactive (range : s.capacityInRange) (usable : s.est.usable = s.usableNow)
    (inactive : ∀ m, (s.stream m).active = false ∧ (s.stream m).share = 0) : s.capacityCurrent :=
  s.capacityCurrent_iff.mpr ⟨range, usable, fun m => by
    rw [(inactive m).2, State.shareIn_of_inactive (inactive m).1]⟩

end Sys2Proof.Machine
end

section
namespace Sys2Proof.Machine

/-! ### What leaves the capacity alone -/

variable (s : State) (n : Slot)

/-- A change of streams, records and queue that leaves each stream's stake. -/
theorem State.SameShell.sameCapacity {s t : State} (h : s.SameShell t)
    (stake : ∀ m, (t.stream m).stake = (s.stream m).stake) : s.SameCapacity t :=
  ⟨h.est, congrArg Classifier.zone h.cls, h.sharing, stake⟩

theorem State.SameElsewhere.sameCapacity {s t : State} {n : Slot} (e : s.SameElsewhere n t) (h : s.SameShell t)
    (stake : (t.stream n).stake = (s.stream n).stake) : s.SameCapacity t :=
  h.sameCapacity fun m => by
    by_cases same : m = n
    · exact same ▸ stake
    · rw [e m same]

theorem State.setStream_sameCapacity {st : Stream} (stake : st.stake = (s.stream n).stake) :
    s.SameCapacity (s.setStream n st) :=
  (s.modStream_elsewhere n fun _ => st).sameCapacity (s.modStream_blocks n fun _ => st).toSameShell
    (by rw [State.stream_modStream_same]; exact stake)

theorem State.modStream_sameCapacity {f : Stream → Stream} (h : ∀ st, (f st).stake = st.stake) :
    s.SameCapacity (s.modStream n f) := s.setStream_sameCapacity n (h _)

theorem State.forSlots_sameCapacity {act : Slot → State → State} (h : ∀ m u, State.SameCapacity u (act m u)) :
    s.SameCapacity (s.forSlots act) :=
  State.forSlots_rel (R := State.SameCapacity) (fun a b => a.trans b) h s

theorem State.setQueue_sameCapacity (q : List TxFrame) : s.SameCapacity (s.setQueue q) := ⟨rfl, rfl, rfl, fun _ => rfl⟩

theorem State.pushTx_sameCapacity (f : TxFrame) : s.SameCapacity (s.pushTx f) := s.setQueue_sameCapacity _

theorem State.reply_sameCapacity (k : Byte) (e : Status) (fs : List Byte) : s.SameCapacity (s.reply k e fs) :=
  s.setQueue_sameCapacity _

theorem State.reach_sameCapacity (e : Nat) : s.SameCapacity (s.reach e) :=
  ⟨s.reach_est e, congrArg Classifier.zone (s.reach_cls e), s.reach_sharing e, fun m => by rw [State.reach_stream]⟩

theorem State.setRecords_sameCapacity (rs : List Record) : s.SameCapacity (s.setRecords rs) := ⟨rfl, rfl, rfl, fun _ => rfl⟩

theorem State.noteIfTurned_sameCapacity (b : State) : s.SameCapacity (s.noteIfTurned b) :=
  (s.noteIfTurned_blocks b).toSameShell.sameCapacity fun m => by rw [State.noteIfTurned_stream]

theorem State.raise_sameCapacity (f : StreamFlag) : s.SameCapacity (s.raise n f) :=
  (s.raise_blocks n f).toSameShell.sameCapacity fun m => by
    rw [State.raise_stream]; split <;> rfl

theorem State.raiseIf_sameCapacity (c : Bool) (f : StreamFlag) : s.SameCapacity (s.raiseIf c n f) := by
  unfold State.raiseIf; split
  · exact s.raise_sameCapacity n f
  · exact .refl s

theorem State.raiseDevice_sameCapacity (f : DeviceFlag) : s.SameCapacity (s.raiseDevice f) := by
  rw [State.raiseDevice_eq]; exact ⟨rfl, rfl, rfl, fun _ => rfl⟩

theorem State.raiseDeviceIf_sameCapacity (c : Bool) (f : DeviceFlag) : s.SameCapacity (s.raiseDeviceIf c f) := by
  unfold State.raiseDeviceIf; split
  · exact s.raiseDevice_sameCapacity f
  · exact .refl s

theorem State.reevaluate_sameCapacity : s.SameCapacity (s.reevaluate n) :=
  (s.modStream_sameCapacity n fun _ => by rfl).trans (State.raiseIf_sameCapacity _ n _ _)

/-- Entry to PLAYING by a stream that is active already (R14). -/
theorem State.enterPlaying_sameCapacity (active : (s.stream n).active = true) (r : GateReason) :
    s.SameCapacity (s.enterPlaying n r) := by
  refine (s.enterPlaying_elsewhere n r).sameCapacity (s.enterPlaying_blocks n r).toSameShell ?_
  rw [State.enterPlaying_stream, Stream.stake, Stream.stake, Stream.demand_of_active active]
  rfl

theorem State.leavePlaying_sameCapacity (r : GateReason) : s.SameCapacity (s.leavePlaying n r) := by
  refine (s.leavePlaying_elsewhere n r).sameCapacity (s.leavePlaying_blocks n r).toSameShell ?_
  rw [State.leavePlaying_stream]; split <;> rfl

theorem State.readinessTest_sameCapacity : s.SameCapacity (s.readinessTest n) := by
  unfold State.readinessTest; split
  · rename_i ready; exact s.enterPlaying_sameCapacity n (Stream.active_of_ready ready) _
  · exact .refl s

theorem State.windowChanged_sameCapacity : s.SameCapacity (s.windowChanged n) :=
  (s.reevaluate_sameCapacity n).trans (State.readinessTest_sameCapacity _ n)

theorem State.contiguousMove_sameCapacity : s.SameCapacity (s.contiguousMove n) :=
  (s.modStream_sameCapacity n fun _ => by rfl).trans (State.windowChanged_sameCapacity _ n)

theorem State.returnEntry_sameCapacity (seg : Nat) : s.SameCapacity (s.returnEntry n seg) :=
  s.modStream_sameCapacity n fun _ => by rfl

theorem State.landEntry_sameCapacity (seg rung bytes : Nat) : s.SameCapacity (s.landEntry n seg rung bytes) :=
  s.modStream_sameCapacity n fun _ => by rfl

theorem State.skipEntry_sameCapacity (e : WindowEntry) : s.SameCapacity (s.skipEntry n e) :=
  (((s.modStream_sameCapacity n fun _ => by rfl).trans (State.raise_sameCapacity _ n _)).trans
    (State.modStream_sameCapacity _ n fun _ => by rfl)).trans (State.contiguousMove_sameCapacity _ n)

theorem State.failEntry_sameCapacity (seg : Nat) : s.SameCapacity (s.failEntry n seg) := by
  unfold State.failEntry; split
  · exact .refl s
  · split
    · exact (s.modStream_sameCapacity n fun _ => by rfl).trans (State.windowChanged_sameCapacity _ n)
    · exact s.skipEntry_sameCapacity n _

theorem State.fall_sameCapacity (named : Nat) : s.SameCapacity (s.fall n named) :=
  s.modStream_sameCapacity n fun st => by split <;> rfl

theorem State.probeFailure_sameCapacity : s.SameCapacity (s.probeFailure n) :=
  ((s.fall_sameCapacity n _).trans (State.raise_sameCapacity _ n _)).trans (State.modStream_sameCapacity _ n fun _ => by rfl)

theorem State.probeSuccess_sameCapacity (r : Nat) : s.SameCapacity (s.probeSuccess n r) := by
  dsimp only [State.probeSuccess]
  refine .trans ?_ (State.modStream_sameCapacity _ n fun _ => by rfl)
  refine .trans ?_ (State.raise_sameCapacity _ n _)
  exact (s.modStream_sameCapacity n fun _ => by rfl).trans (State.raiseIf_sameCapacity _ n _ _)

/-! ### Records, grants and arbitration -/

theorem State.dropRecord_sameCapacity (r : Record) (d : DropReason) : s.SameCapacity (s.dropRecord r d) :=
  (s.dropRecord_shell r d).sameCapacity fun m => by
    rw [State.dropRecord_stream]; split <;> rfl

theorem State.dropToWaiting_sameCapacity (r : Record) (d : DropReason) : s.SameCapacity (s.dropToWaiting r d) :=
  ((s.dropRecord_sameCapacity r d).trans (State.returnEntry_sameCapacity _ _ _)).trans (State.windowChanged_sameCapacity _ _)

theorem State.failProbe_sameCapacity (r : Record) (d : DropReason) : s.SameCapacity (s.failProbe r d) :=
  (s.dropToWaiting_sameCapacity r d).trans (State.probeFailure_sameCapacity _ _)

theorem State.dropFor_sameCapacity (d : DropReason) (r : Option Record) : s.SameCapacity (s.dropFor n d r) := by
  cases r with
  | none => exact .refl s
  | some r => exact (s.dropRecord_sameCapacity r d).trans (State.returnEntry_sameCapacity _ n _)

theorem State.dropStream_sameCapacity (d : DropReason) : s.SameCapacity (s.dropStream n d) :=
  (s.dropFor_sameCapacity n d _).trans (State.dropFor_sameCapacity _ n d _)

theorem State.emptyStream_sameCapacity (d : DropReason) (g : GateReason) : s.SameCapacity (s.emptyStream n d g) := by
  dsimp only [State.emptyStream]
  refine .trans ?_ (State.leavePlaying_sameCapacity _ n g)
  refine .trans ?_ (State.modStream_sameCapacity _ n fun _ => by rfl)
  refine .trans ?_ (State.reevaluate_sameCapacity _ n)
  exact (s.dropStream_sameCapacity n d).trans (State.modStream_sameCapacity _ n fun _ => by rfl)

theorem State.takeDecision_sameCapacity (r : Nat) : s.SameCapacity (s.takeDecision n r) :=
  (s.modStream_sameCapacity n fun _ => by rfl).trans (State.raiseIf_sameCapacity _ n _ _)

theorem State.makeRecord_sameCapacity (e : WindowEntry) (k : FetchKind) (rung : Nat) :
    s.SameCapacity (s.makeRecord n e k rung) :=
  (s.makeRecord_shell n e k rung).sameCapacity fun m => by
    rw [State.makeRecord_stream]; split <;> rfl

theorem State.withArb_sameCapacity (a : Arbiter) : s.SameCapacity { s with arb := a } := ⟨rfl, rfl, rfl, fun _ => rfl⟩

theorem State.grantNormal_sameCapacity : s.SameCapacity (s.grantNormal n) := by
  unfold State.grantNormal; split
  · exact .refl s
  · exact (((s.takeDecision_sameCapacity n _).trans (State.makeRecord_sameCapacity _ n _ _ _)).trans
      (State.withArb_sameCapacity _ _)).trans (State.windowChanged_sameCapacity _ n)

theorem State.grantProbe_sameCapacity : s.SameCapacity (s.grantProbe n) := by
  unfold State.grantProbe; split
  · exact .refl s
  · exact (((s.modStream_sameCapacity n fun _ => by rfl).trans (State.makeRecord_sameCapacity _ n _ _ _)).trans
      (State.withArb_sameCapacity _ _)).trans (State.windowChanged_sameCapacity _ n)

theorem State.grants_sameCapacity (k : Nat) : ∀ s : State, s.SameCapacity (State.grants k s) := by
  induction k with
  | zero => exact .refl
  | succ k ih =>
    intro s
    unfold State.grants; split
    · split
      · exact (s.grantNormal_sameCapacity _).trans (ih _)
      · exact (s.grantProbe_sameCapacity _).trans (ih _)
      · exact .refl s
    · exact .refl s

theorem State.dryTest_sameCapacity : s.SameCapacity (s.dryTest n) := by
  unfold State.dryTest; split
  · exact (s.raise_sameCapacity n _).trans (State.modStream_sameCapacity _ n fun _ => by rfl)
  · exact .refl s

theorem State.arbitrate_sameCapacity : s.SameCapacity s.arbitrate :=
  (s.forSlots_sameCapacity fun m u => u.dryTest_sameCapacity m).trans (State.grants_sameCapacity 8 _)

theorem State.settle_sameCapacity (b : State) : s.SameCapacity (s.settle b) := by
  unfold State.settle; split
  · exact s.arbitrate_sameCapacity
  · exact .refl s

theorem State.setMasks_sameCapacity (r : MaskReq) : s.SameCapacity (s.setMasks r) :=
  State.SameCapacity.trans (t := { s with dev := { s.dev with mask := r.device } }) ⟨rfl, rfl, rfl, fun _ => rfl⟩
    (State.forSlots_sameCapacity _ fun m u => u.modStream_sameCapacity m fun _ => by rfl)

theorem State.clearFlags_sameCapacity : s.SameCapacity s.clearFlags :=
  State.SameCapacity.trans (t := { s with dev := { s.dev with flags := 0 } }) ⟨rfl, rfl, rfl, fun _ => rfl⟩
    (State.forSlots_sameCapacity _ fun m u => u.modStream_sameCapacity m fun _ => by rfl)

/-! ### The line -/

theorem State.receiverTo_sameCapacity (r : Receiver) : s.SameCapacity (s.receiverTo r) := ⟨rfl, rfl, rfl, fun _ => rfl⟩

theorem State.receiveFault_sameCapacity : s.SameCapacity s.receiveFault :=
  (s.receiverTo_sameCapacity _).trans (State.raiseDevice_sameCapacity _ _)

theorem State.frameComplete_sameCapacity (f : Frame) : s.SameCapacity (s.frameComplete f) := by
  unfold State.frameComplete; split
  · exact ⟨rfl, rfl, rfl, fun _ => rfl⟩
  · exact s.raiseDevice_sameCapacity _

theorem State.takeByte_sameCapacity (b : Byte) : s.SameCapacity (s.takeByte b) := by
  unfold State.takeByte; split
  · split
    · exact s.receiverTo_sameCapacity _
    · exact .refl s
  · split
    · exact s.receiverTo_sameCapacity _
    · exact s.receiveFault_sameCapacity
  · split <;> exact s.receiverTo_sameCapacity _
  · split
    · exact s.receiveFault_sameCapacity
    · split
      · exact (s.receiverTo_sameCapacity _).trans (State.frameComplete_sameCapacity _ _)
      · exact s.receiveFault_sameCapacity

theorem State.receiveByte_sameCapacity (b : Byte) (low : Bool) : s.SameCapacity (s.receiveByte b low) := by
  unfold State.receiveByte; split
  · split
    · exact .refl s
    · exact s.receiveFault_sameCapacity
  · exact s.takeByte_sameCapacity b

theorem State.offer_sameCapacity (f : Frame) : s.SameCapacity (s.offer f) := by
  unfold State.offer; split
  · exact .refl s
  · split
    · exact s.frameComplete_sameCapacity f
    · exact .refl s

theorem State.popFrame_sameCapacity : s.SameCapacity s.popFrame := ⟨rfl, rfl, rfl, fun _ => rfl⟩

theorem State.startFrame_sameCapacity (f : TxFrame) (q : List TxFrame) : s.SameCapacity (s.startFrame f q) := by
  have announced : s.SameCapacity ({ s with tx := { queue := q, sending := some ⟨f.line s.groupField,
      5 * (f.line s.groupField).length⟩ } }.announce f) := by
    cases f <;> exact ⟨rfl, rfl, rfl, fun _ => rfl⟩
  unfold State.startFrame; dsimp only; split
  · exact announced.trans (State.arbitrate_sameCapacity _)
  · exact announced

/-- An idle step takes an event up or lets time pass (log entry 4). -/
theorem State.idle_sameCapacity : s.SameCapacity s.idle := by
  have time : s.passTime.est = s.est ∧ s.passTime.cls = s.cls ∧ s.passTime.sharing = s.sharing := by
    unfold State.passTime; split
    · split <;> exact ⟨rfl, rfl, rfl⟩
    · exact ⟨rfl, rfl, rfl⟩
  obtain ⟨est, cls, sharing⟩ := time
  unfold State.idle; split
  · split
    · exact ⟨est, congrArg Classifier.zone cls, sharing, fun m => by rw [State.passTime_stream]⟩
    · exact ⟨rfl, rfl, rfl, fun _ => rfl⟩
  · exact .refl s

end Sys2Proof.Machine
end

section
namespace Sys2Proof.Machine

/-! ### Requests that re-run the allocation -/

variable {s t u : State} (n : Slot)

theorem State.capacityCurrent.reallocateIf (h : s.capacityCurrent) {c : Bool} (e : s.SameShell t)
    (same : c = false → s.SameCapacity t) : (t.reallocateIf c).capacityCurrent := by
  cases c with
  | true => exact h.reallocate e
  | false => exact h.congr (same rfl)

/-- Activity is part of the stake. -/
theorem State.SameCapacity.active (h : s.SameCapacity t) (m : Slot) : (t.stream m).active = (s.stream m).active :=
  Stream.active_of_demand (congrArg Prod.fst (h.stake m))

/-- A change of an active stream's playback state to another active one. -/
theorem State.modStream_sameCapacity_of_active (active : (s.stream n).active = true) {f : Stream → Stream}
    (h : ∀ st, (f st).active = true ∧ (f st).cfg = st.cfg ∧ (f st).ladder = st.ladder ∧ (f st).share = st.share) :
    s.SameCapacity (s.modStream n f) := by
  obtain ⟨active', cfg, ladder, share⟩ := h (s.stream n)
  refine s.setStream_sameCapacity n (Prod.ext ?_ share)
  change (f (s.stream n)).demand = (s.stream n).demand
  rw [Stream.demand_of_active active, Stream.demand_of_active active', cfg, ladder]

/-- A change of an inactive stream that leaves it inactive and without a new share. -/
theorem State.setStream_sameCapacity_of_inactive (inactive : (s.stream n).active = false) {st : Stream}
    (inactive' : st.active = false) (share : st.share = (s.stream n).share) : s.SameCapacity (s.setStream n st) :=
  s.setStream_sameCapacity n (Stream.stake_of_inactive inactive inactive' share)

theorem State.enterStarting_shell (s : State) : s.SameShell (s.enterStarting n) := (s.modStream_blocks n _).toSameShell

theorem State.enterStarting_sameCapacity (active : (s.stream n).active = true) : s.SameCapacity (s.enterStarting n) :=
  State.modStream_sameCapacity_of_active n active fun _ => by exact ⟨rfl, rfl, rfl, rfl⟩

theorem State.capacityCurrent.playAct (h : s.capacityCurrent) : (s.playAct n).capacityCurrent := by
  unfold State.playAct; split
  · exact (h.reallocate ((s.modStream_blocks n Stream.startOfPlayback).toSameShell.trans
      (State.enterStarting_shell n _))).congr (State.readinessTest_sameCapacity _ n)
  · rename_i paused
    have active : (s.stream n).active = true := by simp [Stream.active, paused]
    split
    · exact h.congr ((State.enterStarting_sameCapacity n active).trans (State.readinessTest_sameCapacity _ n))
    · exact h.congr (s.enterPlaying_sameCapacity n active _)
  all_goals exact h

theorem State.pauseAct_sameCapacity (active : (s.stream n).active = true) : s.SameCapacity (s.pauseAct n) := by
  unfold State.pauseAct; split
  · exact .refl s
  · have left := s.leavePlaying_sameCapacity n .pause
    exact left.trans (State.modStream_sameCapacity_of_active n ((left.active n).trans active) fun _ => by
      exact ⟨rfl, rfl, rfl, rfl⟩)

/-- SEEK re-runs the allocation where the stream was not active (R19). -/
theorem State.capacityCurrent.seekAct (h : s.capacityCurrent) : (s.seekAct n).capacityCurrent := by
  refine State.capacityCurrent.congr (h.reallocateIf (s.seekBegun_vacated n).shell fun already => ?_)
    (State.readinessTest_sameCapacity _ n)
  have cleared : s.SameCapacity ((s.emptyStream n .seek .seek).modStream n fun st =>
      { st with prevGrant := none, startLimit := true }) :=
    (s.emptyStream_sameCapacity n .seek .seek).trans (State.modStream_sameCapacity _ n fun _ => by rfl)
  exact cleared.trans (State.enterStarting_sameCapacity n ((cleared.active n).trans (by simpa using already)))

/-- STOP re-runs the allocation where the stream was active (R20). -/
theorem State.capacityCurrent.stopAct (h : s.capacityCurrent) : (s.stopAct n).capacityCurrent := by
  refine h.reallocateIf (s.stopBegun_vacated n).shell fun inactive => ?_
  have emptied := s.emptyStream_sameCapacity n .stop .stop
  generalize s.emptyStream n .stop .stop = u at emptied
  exact emptied.trans (State.setStream_sameCapacity_of_inactive n ((emptied.active n).trans inactive) rfl rfl)

/-- CLOSE re-runs the allocation where the stream was active (R21). -/
theorem State.capacityCurrent.closeAct (h : s.capacityCurrent) : (s.closeAct n).capacityCurrent := by
  have vacated := s.closeBegun_vacated n
  refine h.reallocateIf vacated.shell fun inactive => vacated.elsewhere.sameCapacity vacated.shell ?_
  rw [State.closeBegun_stream]
  exact Stream.stake_of_inactive inactive rfl (h.share_of_inactive inactive).symm

/-! ### Slots that open and close -/

theorem Estimator.reset_inRange (t : Nat) : (Estimator.reset t).inRange := by
  simp [Estimator.inRange, Estimator.reset]

theorem State.reset_capacityCurrent : State.reset.capacityCurrent :=
  State.capacityCurrent_of_inactive ⟨Estimator.reset_inRange 0, Nat.le_refl _⟩ rfl fun m => by
    fin_cases m <;> exact ⟨rfl, rfl⟩

theorem State.capacityCurrent.closeAll (h : s.capacityCurrent) : s.closeAll.capacityCurrent :=
  State.capacityCurrent_of_inactive h.inRange h.usable fun m => by rw [State.closeAll_stream]; exact ⟨rfl, rfl⟩

theorem State.resetLink_capacityCurrent (s : State) : s.resetLink.capacityCurrent :=
  State.capacityCurrent_of_inactive ⟨Estimator.reset_inRange s.now, Nat.le_refl _⟩
    (show 2700 = min (3000 * 90 / 100 * 16 / 16) 1000000 by decide) fun m => by
    rw [State.resetLink_stream]; exact ⟨rfl, rfl⟩

/-- OPEN takes a slot without a share (R4). -/
theorem State.capacityCurrent.opened (h : s.capacityCurrent) (closed : (s.stream n).isOpen = false) (c : SlotConfig) :
    (s.modStream n fun st => st.opened c).capacityCurrent := by
  have state : (s.stream n).state = .closed := by simpa [Stream.isOpen] using closed
  have inactive : (s.stream n).active = false := by simp [Stream.active, state]
  exact h.congr (State.setStream_sameCapacity_of_inactive n inactive rfl (h.share_of_inactive inactive).symm)

/-- LADDER loads an IDLE stream, which has no part in the allocation (R27). -/
theorem State.loaded_sameCapacity (idle : (s.stream n).state = .idle) (l : List Rung) :
    s.SameCapacity (s.modStream n fun st => st.loaded l) := by
  have inactive : ∀ st : Stream, st.state = .idle → st.active = false := fun st state => by simp [Stream.active, state]
  exact State.setStream_sameCapacity_of_inactive n (inactive _ idle) (inactive _ idle) rfl

/-- TUNE writes nothing that the allocation reads (R6, R8). -/
theorem Stream.tuned_stake (st : Stream) (r : TuneReq) : (st.tuned r).stake = st.stake := by
  unfold Stream.tuned Stream.lifted; dsimp only; split
  · split <;> rfl
  · rfl

/-! ### The estimator and LIMITS (R95, R100, R105) -/

/-- The allocation reads the settings and the streams, not the estimator. -/
theorem State.withEst_allocation (s : State) (e : Estimator) (u : Nat) :
    ({ s with est := e } : State).allocation u = s.allocation u := 
  State.allocation_of_demand (s := s) (t := { s with est := e }) rfl (fun _ => rfl) u

/-- A change of the estimator within its range that leaves what U is computed from. -/
theorem State.capacityCurrent.withEst (h : s.capacityCurrent) {e : Estimator} (range : e.inRange)
    (same : e.estimate = s.est.estimate ∧ e.sagTrim = s.est.sagTrim ∧ e.usable = s.est.usable) :
    ({ s with est := e } : State).capacityCurrent := by
  obtain ⟨estimate, trim, usable⟩ := same
  obtain ⟨⟨-, ceiling⟩, current, shares⟩ := s.capacityCurrent_iff.mp h
  refine (State.capacityCurrent_iff _).mpr ⟨⟨range, ceiling⟩, ?_, fun m => ?_⟩
  · rw [usable, current]
    simp only [State.usableNow, estimate, trim]
  · rw [State.withEst_allocation, usable]
    exact shares m

theorem State.capacityCurrent.countBytes (h : s.capacityCurrent) (k : Nat) : (s.countBytes k).capacityCurrent := by
  obtain ⟨fast, slow, lower, -, trim⟩ := h.inRange.1
  exact h.withEst ⟨fast, slow, lower, Nat.min_le_right _ _, trim⟩ ⟨rfl, rfl, rfl⟩

theorem State.capacityInRange.loadStart (h : s.capacityInRange) {v : Nat} (range : v ≤ 1000000) :
    (s.loadStart v).capacityInRange := by
  unfold State.loadStart; split
  · exact h
  · obtain ⟨⟨-, -, -, bytes, trim⟩, ceiling⟩ := h
    exact ⟨⟨range, range, (min_self v).symm, bytes, trim⟩, ceiling⟩

theorem State.capacityCurrent.applyLimits (h : s.capacityCurrent) {r : LimitsReq} (ok : limitsRangesOk r = true) :
    (s.applyLimits r).capacityCurrent := by
  simp only [limitsRangesOk, Bool.and_eq_true, decide_eq_true_eq] at ok
  obtain ⟨⟨⟨-, start, -, ceiling, -⟩, -⟩, -⟩ := ok
  have written : (s.writeLimits r).capacityInRange := ⟨h.inRange.1, ceiling⟩
  unfold State.applyLimits; dsimp only; split
  · exact State.recomputeUsable_capacityCurrent (written.loadStart start)
  · rename_i same
    obtain ⟨start, limit⟩ : r.startEstimate = s.est.startEstimate ∧ r.linkCeiling = s.sharing.linkCeiling := by
      simpa only [not_or, not_not, ne_eq] using same
    rw [show (s.writeLimits r).loadStart r.startEstimate = s.writeLimits r from if_pos start]
    split
    · refine State.reallocate_capacityCurrent written (h.usable.trans ?_)
      simp only [State.usableNow, State.writeLimits, limit]
    · rename_i protect
      have settings : (s.writeLimits r).sharing = s.sharing := by
        simp only [State.writeLimits, limit, not_not.mp protect]
      exact (h.withEst (e := (s.writeLimits r).est) h.inRange.1 ⟨rfl, rfl, rfl⟩).congr ⟨rfl, rfl, settings, fun _ => rfl⟩

end Sys2Proof.Machine
end

section
namespace Sys2Proof.Machine

/-! ### Reports and timers -/

variable {s t u : State} (n : Slot)

theorem State.landingReported_sameCapacity (s : State) (r : Record) : s.SameCapacity (s.landingReported r) := by
  have ended : s.SameCapacity (s.modStream r.slot fun st => { st with startLimit := false }) :=
    s.modStream_sameCapacity r.slot fun _ => by rfl
  unfold State.landingReported; dsimp only; split
  · exact ended
  · exact ended.trans (State.probeSuccess_sameCapacity _ _ _)

/-- A landing counts bytes, and else leaves the capacity (R61, R95). -/
theorem State.capacityCurrent.landAct (h : s.capacityCurrent) (r : Record) (bytes : Nat) :
    (s.landAct r bytes).capacityCurrent :=
  (h.countBytes (bytes - r.reported)).congr ((((State.setRecords_sameCapacity _ _).trans
    (State.landEntry_sameCapacity _ _ _ _ _)).trans (State.contiguousMove_sameCapacity _ _)).trans
    (State.landingReported_sameCapacity _ r))

theorem State.breakAct_sameCapacity (s : State) (r : Record) : s.SameCapacity (s.breakAct r) := by
  have freed : s.SameCapacity (s.freeRecord r.tag) := s.setRecords_sameCapacity _
  unfold State.breakAct; dsimp only; split
  · exact freed.trans (State.failEntry_sameCapacity _ _ _)
  · exact ((freed.trans (State.returnEntry_sameCapacity _ _ _)).trans (State.windowChanged_sameCapacity _ _)).trans
      (State.probeFailure_sameCapacity _ _)

theorem State.expireNormal_sameCapacity (s : State) (r : Record) : s.SameCapacity (s.expireNormal r) :=
  (((s.dropRecord_sameCapacity r .deadline).trans (State.failEntry_sameCapacity _ _ _)).trans
    (State.raise_sameCapacity _ _ _)).trans (State.fall_sameCapacity _ _ _)

theorem State.stallProbe_sameCapacity (s : State) : s.SameCapacity (s.stallProbe n) := by
  unfold State.stallProbe; split
  · exact s.failProbe_sameCapacity _ _
  · exact .refl s

theorem State.rescue_sameCapacity (s : State) : s.SameCapacity (s.rescue n) := by
  unfold State.rescue; split
  · split
    · exact (s.dropToWaiting_sameCapacity _ _).trans (State.modStream_sameCapacity _ n fun _ => by rfl)
    · exact .refl s
  · exact .refl s

/-- An underrun takes a stream from PLAYING to REBUFFERING, both active (R16). -/
theorem State.underrun_sameCapacity (playing : (s.stream n).state = .playing) : s.SameCapacity (s.underrun n) := by
  have left := s.leavePlaying_sameCapacity n .stall
  have active := (left.active n).trans (Stream.active_of_playing playing)
  have entered : s.SameCapacity (s.enterRebuffering n) :=
    (left.trans (State.modStream_sameCapacity_of_active n active fun _ => by exact ⟨rfl, rfl, rfl, rfl⟩)).trans
      (State.raise_sameCapacity _ n _)
  exact ((entered.trans (State.fall_sameCapacity _ n _)).trans (State.stallProbe_sameCapacity n _)).trans
    (State.rescue_sameCapacity n _)

theorem State.capacityCurrent.endOfPresentation (h : s.capacityCurrent) : (s.endOfPresentation n).capacityCurrent :=
  h.reallocate ((s.leavePlaying_blocks n .ended).trans ((State.modStream_blocks _ n _).trans
    (State.raise_blocks _ n _))).toSameShell

theorem State.capacityCurrent.drainAct (h : s.capacityCurrent) (playing : (s.stream n).state = .playing) :
    (s.drainAct n).capacityCurrent := by
  have drained : s.SameCapacity ((s.modStream n Stream.drained).reevaluate n) :=
    (s.modStream_sameCapacity n fun _ => by rfl).trans (State.reevaluate_sameCapacity _ n)
  have state : (((s.modStream n Stream.drained).reevaluate n).stream n).state = .playing := by
    rw [State.reevaluate_stream, State.stream_modStream_same]; exact playing
  unfold State.drainAct State.drainEnd; dsimp only; split
  · split
    · exact (h.congr drained).endOfPresentation n
    · exact h.congr (drained.trans (State.underrun_sameCapacity n state))
  · exact h.congr drained

theorem Estimator.inRange.sampled {e : Estimator} (h : e.inRange) : e.sampled.inRange := by
  obtain ⟨fast, slow, lower, bytes, trim⟩ := h
  have sample : e.sample ≤ 1000000 := Nat.min_le_right _ _
  unfold Estimator.sampled; split
  · exact ⟨by dsimp only; omega, by dsimp only; omega, rfl, bytes, trim⟩
  · exact ⟨fast, slow, lower, bytes, trim⟩

/-- A sample that leaves E leaves U and the shares current (R97, R105). -/
theorem State.capacityCurrent.sampleAct (h : s.capacityCurrent) : s.sampleAct.capacityCurrent := by
  obtain ⟨fast, slow, lower, -, trim⟩ := h.inRange.1.sampled
  have kept : s.est.sampled.sagTrim = s.est.sagTrim ∧ s.est.sampled.usable = s.est.usable := by
    unfold Estimator.sampled; split <;> exact ⟨rfl, rfl⟩
  unfold State.sampleAct; dsimp only; split
  · rename_i same; exact h.withEst ⟨fast, slow, lower, Nat.zero_le _, trim⟩ ⟨same, kept⟩
  · exact State.recomputeUsable_capacityCurrent ⟨⟨fast, slow, lower, Nat.zero_le _, trim⟩, h.inRange.2⟩

theorem State.envelopeAct_sameCapacity (s : State) : s.SameCapacity (s.envelopeAct n) := by
  have restarted : s.SameCapacity (s.modStream n fun st => { st with stepTimer := s.restartedStep st st.ceiling }) :=
    s.modStream_sameCapacity n fun _ => by rfl
  unfold State.envelopeAct; split
  · exact s.modStream_sameCapacity n fun _ => by rfl
  · exact s.modStream_sameCapacity n fun _ => by rfl
  · dsimp only
    split
    · exact (restarted.trans (State.modStream_sameCapacity _ n fun _ => by rfl)).trans (State.arbitrate_sameCapacity _)
    · exact restarted
  · exact .refl s

/-! ### LINK and the dwell timer (R101, R104, R105, R115) -/

theorem Estimator.trimAfter_range {e : Estimator} (low : 8 ≤ e.sagTrim) (high : e.sagTrim ≤ 16) (rtt : Nat) :
    8 ≤ e.trimAfter rtt ∧ e.trimAfter rtt ≤ 16 := by
  unfold Estimator.trimAfter; split
  · omega
  · split <;> omega

theorem State.SameCapacity.withCls (h : s.SameCapacity t) (c : Classifier) :
    { s with cls := c }.SameCapacity { t with cls := c } := ⟨h.est, rfl, h.sharing, h.stake⟩

theorem State.toZone_sameCapacity (s : State) (z : Zone) :
    { s with cls := { s.cls with zone := z } }.SameCapacity (s.toZone z) := State.raiseDeviceIf_sameCapacity _ _ _

theorem State.enterJammed_sameCapacity (s : State) : s.SameCapacity s.enterJammed := by
  have clamped : s.SameCapacity s.clampAll :=
    (s.forSlots_sameCapacity fun m u => u.fall_sameCapacity m _).trans
      (State.forSlots_sameCapacity _ fun m u => u.modStream_sameCapacity m fun _ => by rfl)
  have counted : s.SameCapacity s.clampAll.choiceTaken := clamped.trans ⟨rfl, rfl, rfl, fun _ => rfl⟩
  rw [State.enterJammed_eq]
  exact List.foldlRecOn (motive := s.SameCapacity) _ _ counted fun u hu r _ => hu.trans (u.failProbe_sameCapacity r _)

theorem State.zoneRise_sameCapacity (s : State) (z : Zone) :
    { s with cls := { s.cls with dwellTimer := none, zone := z } }.SameCapacity (s.zoneRise z) := by
  have risen := { s with cls := { s.cls with dwellTimer := none } }.toZone_sameCapacity z
  have fallen : ∀ u : State, u.SameCapacity u.crowdedFall := fun u =>
    u.forSlots_sameCapacity fun m v => v.fall_sameCapacity m _
  have entered : ∀ u : State, u.SameCapacity (if z = .jammed then u.enterJammed else u) := fun u => by
    split
    · exact u.enterJammed_sameCapacity
    · exact .refl u
  refine State.SameCapacity.trans ?_ (entered _)
  split
  · exact risen.trans (fallen _)
  · exact risen

/-- A report changes the classifier, and else leaves the capacity (R110 to R112). -/
theorem State.classify_sameCapacity (s : State) (raw : Zone) :
    ∃ c : Classifier, { s with cls := c }.SameCapacity (s.classify raw) := by
  unfold State.classify; dsimp only; split
  · exact ⟨_, State.zoneRise_sameCapacity { s with cls := { s.cls with raw := raw } } raw⟩
  · exact ⟨_, .refl _⟩

theorem State.zoneTold_sameCapacity (s : State) (was : Zone) : s.SameCapacity (s.zoneTold was) := by
  unfold State.zoneTold; split
  · exact .refl s
  · split
    · exact s.forSlots_sameCapacity fun m u => u.modStream_sameCapacity m fun _ => by rfl
    · split
      · exact s.forSlots_sameCapacity fun m u => u.modStream_sameCapacity m fun _ => by rfl
      · exact .refl s

/-- A report that moves neither trim nor zone leaves U and the shares current; else they are recomputed (R105). -/
theorem State.capacityCurrent.linkAct (h : s.capacityCurrent) (r : LinkReq) : (s.linkAct r).capacityCurrent := by
  obtain ⟨⟨fast, slow, lower, bytes, low, high⟩, ceiling⟩ := h.inRange
  have sagged : { s with est := { s.est with sagTrim := s.est.trimAfter r.rtt } }.SameCapacity (s.sagStep r.rtt) :=
    State.raiseDeviceIf_sameCapacity _ _ _
  obtain ⟨c, classified⟩ := (s.sagStep r.rtt).classify_sameCapacity (s.cls.rawLevel r.retry r.airtime)
  have told : { s with est := { s.est with sagTrim := s.est.trimAfter r.rtt }, cls := c }.SameCapacity
      (((s.sagStep r.rtt).classify (s.cls.rawLevel r.retry r.airtime)).zoneTold s.cls.zone) :=
    ((sagged.withCls c).trans classified).trans (State.zoneTold_sameCapacity _ _)
  unfold State.linkAct State.linkUsable; split
  · rename_i unmoved
    have est := told.est
    have trim : s.est.trimAfter r.rtt = s.est.sagTrim := by rw [← unmoved.1, est]
    rw [trim] at est
    exact h.congr ⟨est, unmoved.2, told.sharing, told.stake⟩
  · refine State.recomputeUsable_capacityCurrent ⟨?_, told.sharing ▸ ceiling⟩
    rw [told.est]
    exact ⟨fast, slow, lower, bytes, Estimator.trimAfter_range low high r.rtt⟩

theorem State.capacityCurrent.dwellAct (h : s.capacityCurrent) : s.dwellAct.capacityCurrent := by
  have fallen := (State.toZone_sameCapacity { s with cls := { s.cls with
    dwellTimer := if s.cls.raw.code < s.cls.zone.below.code then some (s.now + s.cls.dwell) else none } }
    s.cls.zone.below).trans (State.zoneTold_sameCapacity _ s.cls.zone)
  refine State.recomputeUsable_capacityCurrent ⟨?_, ?_⟩
  · rw [fallen.est]; exact h.inRange.1
  · rw [fallen.sharing]; exact h.inRange.2

end Sys2Proof.Machine
end

section
namespace Sys2Proof.Machine

/-! ### Every command keeps capacity current -/

variable {s t : State} (n : Slot)

theorem State.capacityCurrent.reply (h : s.capacityCurrent) (k : Byte) (e : Status) (fs : List Byte) :
    (s.reply k e fs).capacityCurrent := h.congr (s.reply_sameCapacity k e fs)

theorem State.capacityCurrent.replyState (h : s.capacityCurrent) : (s.replyState n).capacityCurrent := h.reply _ _ _

theorem State.capacityCurrent.arbitrate (h : s.capacityCurrent) : s.arbitrate.capacityCurrent :=
  h.congr s.arbitrate_sameCapacity

theorem State.capacityCurrent.settle (h : s.capacityCurrent) (b : State) : (s.settle b).capacityCurrent :=
  h.congr (s.settle_sameCapacity b)

theorem State.capacityCurrent.reach (h : s.capacityCurrent) (e : Nat) : (s.reach e).capacityCurrent :=
  h.congr (s.reach_sameCapacity e)

theorem State.capacityCurrent.offer (h : s.capacityCurrent) (f : Frame) : (s.offer f).capacityCurrent :=
  h.congr (s.offer_sameCapacity f)

theorem State.capacityCurrent.popFrame (h : s.capacityCurrent) : s.popFrame.capacityCurrent := h.congr s.popFrame_sameCapacity

theorem State.capacityCurrent.takeRequest (h : s.capacityCurrent) {f : Frame} {act : State → State}
    (ha : ∀ u : State, u.capacityCurrent → (act u).capacityCurrent) : (s.takeRequest f act).capacityCurrent :=
  State.takeRequest_keeps h (h.offer f) fun _ => ha _ (h.offer f).popFrame

theorem State.capacityCurrent.request (h : s.capacityCurrent) {α : Type} {kind : Byte} {body : List Byte}
    {check : State → Except Status α} {act : α → State → State}
    (ha : ∀ a (u : State), u.capacityCurrent → check u = .ok a → (act a u).capacityCurrent) :
    (s.request kind body check act).capacityCurrent :=
  State.request_keeps h (h.offer _) (fun _ e => (h.offer _).popFrame.reply kind e [])
    fun _ a passed => ha a _ (h.offer _).popFrame passed

theorem State.capacityCurrent.requestIf (h : s.capacityCurrent) {α : Type} {own : Bool} {kind : Byte} {body : List Byte}
    {check : State → Except Status α} {act : α → State → State}
    (ha : ∀ a (u : State), u.capacityCurrent → check u = .ok a → (act a u).capacityCurrent) :
    (s.requestIf own kind body check act).capacityCurrent :=
  State.requestIf_keeps h fun _ => h.request ha

theorem State.capacityCurrent.whenRunning (h : s.capacityCurrent) {act : State → State} (ha : (act s).capacityCurrent) :
    (s.whenRunning act).capacityCurrent := by
  unfold State.whenRunning; split
  · exact ha
  · exact h

theorem State.capacityCurrent.atExpiry (h : s.capacityCurrent) {timer : Option Nat} {act : State → State}
    (ha : ∀ e, timer = some e → (act (s.reach e)).capacityCurrent) : (s.atExpiry timer act).capacityCurrent := by
  unfold State.atExpiry; split
  · exact ha _ rfl
  · exact h

/-- The start timer runs in STARTING alone, so that its expiry finds an active stream (R15). -/
theorem State.startExpiry_sameCapacity (starting : (s.stream n).state = .starting) (c : Prop) [Decidable c] :
    s.SameCapacity (if c then ((s.modStream n fun st => { st with startTimer := none }).raise n .startLate).modStream n
        fun st => { st with overdue := true }
      else ((s.modStream n fun st => { st with startTimer := none }).raise n .startLate).enterPlaying n .start) := by
  have active : (s.stream n).active = true := by simp [Stream.active, starting]
  have raised : s.SameCapacity ((s.modStream n fun st => { st with startTimer := none }).raise n .startLate) :=
    (s.modStream_sameCapacity n fun _ => by rfl).trans (State.raise_sameCapacity _ n _)
  split
  · exact raised.trans (State.modStream_sameCapacity _ n fun _ => by rfl)
  · exact raised.trans (State.enterPlaying_sameCapacity _ n ((raised.active n).trans active) _)

theorem State.stallExpiry_sameCapacity (s : State) :
    s.SameCapacity (((s.modStream n fun st => { st with stallTimer := none }).raise n .stallLong).fall n 0) :=
  ((s.modStream_sameCapacity n fun _ => by rfl).trans (State.raise_sameCapacity _ n _)).trans (State.fall_sameCapacity _ n _)

/-- Every command keeps capacity current. The drain timer and the start timer find the stream in its state, since the streams
are controlled. -/
theorem State.capacityCurrent.exec (h : s.capacityCurrent) (ctl : s.controlled) (c : Instr) (run : exec c s = .next t) :
    t.capacityCurrent := by
  cases c with
  | nrstAssert => obtain rfl := Host.Outcome.next.inj run; exact h.congr ⟨rfl, rfl, rfl, fun _ => rfl⟩
  | nrstRelease =>
    obtain rfl := Host.Outcome.next.inj run
    split
    · exact h.congr ⟨rfl, rfl, rfl, fun _ => rfl⟩
    · exact h
  | timeBaseStart =>
    obtain rfl := Host.Outcome.next.inj run
    split
    · exact State.reset_capacityCurrent.congr ⟨rfl, rfl, rfl, fun _ => rfl⟩
    · exact h
  | receiveByte b low =>
    obtain rfl := Host.Outcome.next.inj run
    exact h.whenRunning (h.congr (s.receiveByte_sameCapacity b low))
  | gapTimerExpiry =>
    obtain rfl := Host.Outcome.next.inj run
    exact h.whenRunning (h.atExpiry fun e _ => (h.reach e).congr (State.receiveFault_sameCapacity _))
  | unknownKindRequest kind body =>
    obtain rfl := Host.Outcome.next.inj run
    split
    · exact h
    · exact h.takeRequest fun _ hu => hu.reply _ _ _
  | transmitStart =>
    obtain rfl := Host.Outcome.next.inj run
    refine h.whenRunning ?_
    split
    · exact h.congr (s.startFrame_sameCapacity _ _)
    · exact h
    · exact h
  | transmitComplete =>
    obtain rfl := Host.Outcome.next.inj run; exact h.whenRunning (h.congr ⟨rfl, rfl, rfl, fun _ => rfl⟩)
  | ident body => obtain rfl := Host.Outcome.next.inj run; exact h.request fun _ _ hu _ => hu.reply _ _ _
  | restartStreams body =>
    obtain rfl := Host.Outcome.next.inj run
    exact h.requestIf fun _ _ hu _ => (hu.closeAll.congr (State.setQueue_sameCapacity _ _)).reply _ _ _
  | restartAll body =>
    obtain rfl := Host.Outcome.next.inj run
    exact h.requestIf fun _ u _ _ => (((State.resetLink_capacityCurrent u.closeAll).congr
      (State.setQueue_sameCapacity _ [])).reply 0x02 .ok []).congr (State.pushTx_sameCapacity _ _)
  | limits body =>
    obtain rfl := Host.Outcome.next.inj run
    exact h.request fun _ _ hu passed => (hu.applyLimits (limitsRangesOk_of_parseLimits passed)).arbitrate.reply _ _ _
  | mask body =>
    obtain rfl := Host.Outcome.next.inj run
    exact h.request fun r u hu _ => (hu.congr ((u.setMasks_sameCapacity r).trans
      (State.noteIfTurned_sameCapacity _ _))).reply _ _ _
  | flags body =>
    obtain rfl := Host.Outcome.next.inj run
    exact h.request fun _ u hu _ => (hu.congr u.clearFlags_sameCapacity).reply _ _ _
  | queryStream body => obtain rfl := Host.Outcome.next.inj run; exact h.requestIf fun _ _ hu _ => hu.reply _ _ _
  | queryLink body => obtain rfl := Host.Outcome.next.inj run; exact h.requestIf fun _ _ hu _ => hu.reply _ _ _
  | queryRecord body => obtain rfl := Host.Outcome.next.inj run; exact h.requestIf fun _ _ hu _ => hu.reply _ _ _
  | openSlot body =>
    obtain rfl := Host.Outcome.next.inj run
    exact h.request fun r _ hu passed => (hu.opened r.slot (State.parse_of_checkOpen passed).2 r.cfg).reply _ _ _
  | tune body =>
    obtain rfl := Host.Outcome.next.inj run
    exact h.request fun r u hu _ =>
      (hu.congr (u.modStream_sameCapacity r.slot fun st => st.tuned_stake r)).reply _ _ _
  | ladder body =>
    obtain rfl := Host.Outcome.next.inj run
    exact h.request fun r _ hu passed =>
      (hu.congr (State.loaded_sameCapacity r.slot (State.idle_of_checkLadder passed) r.rungs)).reply _ _ _
  | append body =>
    obtain rfl := Host.Outcome.next.inj run
    exact h.request fun r u hu _ => (hu.congr ((u.modStream_sameCapacity r.slot fun _ => by rfl).trans
      (State.windowChanged_sameCapacity _ _))).arbitrate.reply _ _ _
  | play body =>
    obtain rfl := Host.Outcome.next.inj run
    exact h.requestIf fun r _ hu _ => (hu.playAct r.slot).arbitrate.replyState _
  | pause body =>
    obtain rfl := Host.Outcome.next.inj run
    exact h.requestIf fun r _ hu passed =>
      (hu.congr (State.pauseAct_sameCapacity r.slot (State.allowed_of_checkPlayctl passed))).replyState _
  | seek body =>
    obtain rfl := Host.Outcome.next.inj run
    exact h.requestIf fun r _ hu _ => ((hu.seekAct r.slot).settle _).replyState _
  | stop body =>
    obtain rfl := Host.Outcome.next.inj run
    exact h.requestIf fun r _ hu _ => ((hu.stopAct r.slot).settle _).replyState _
  | close body =>
    obtain rfl := Host.Outcome.next.inj run
    refine h.request fun n u hu _ => ?_
    dsimp only
    split
    · exact (hu.closeAct n).arbitrate.reply _ _ _
    · exact (hu.closeAct n).reply _ _ _
  | position body =>
    obtain rfl := Host.Outcome.next.inj run
    exact h.request fun r u hu _ => ((hu.congr ((u.modStream_sameCapacity r.1 fun _ => by rfl).trans
      (State.windowChanged_sameCapacity _ _))).settle _).reply _ _ _
  | probe body =>
    obtain rfl := Host.Outcome.next.inj run
    exact h.request fun n u hu _ => (hu.congr (u.modStream_sameCapacity n fun _ => by rfl)).arbitrate.reply _ _ _
  | tally body =>
    obtain rfl := Host.Outcome.next.inj run
    exact h.request fun q _ hu _ => ((hu.countBytes (q.2 - q.1.reported)).congr (State.setRecords_sameCapacity _ _)).reply _ _ _
  | landed body =>
    obtain rfl := Host.Outcome.next.inj run
    exact h.request fun q _ hu _ => (hu.landAct q.1 q.2).arbitrate.reply _ _ _
  | broken body =>
    obtain rfl := Host.Outcome.next.inj run
    exact h.request fun r u hu _ => (hu.congr (u.breakAct_sameCapacity r)).arbitrate.reply _ _ _
  | link body =>
    obtain rfl := Host.Outcome.next.inj run
    exact h.request fun r _ hu _ => ((hu.linkAct r).settle _).reply _ _ _
  | startTimerExpiry n =>
    obtain rfl := Host.Outcome.next.inj run
    refine h.whenRunning (h.atExpiry fun e running => (h.reach e).congr (State.startExpiry_sameCapacity n ?_ _))
    rw [State.reach_stream]
    exact (ctl n).2.2.1 (by rw [running]; rfl)
  | stallTimerExpiry n =>
    obtain rfl := Host.Outcome.next.inj run
    exact h.whenRunning (h.atExpiry fun e _ => (h.reach e).congr (State.stallExpiry_sameCapacity n _))
  | drainStep n =>
    obtain rfl := Host.Outcome.next.inj run
    refine h.whenRunning (h.atExpiry fun e running => ((h.reach e).drainAct n ?_).settle _)
    rw [State.reach_stream]
    exact (ctl n).2.1.mp (by rw [running]; rfl)
  | deadlineExpiry tag =>
    obtain rfl := Host.Outcome.next.inj run
    refine h.whenRunning ?_
    split
    · split
      · exact ((h.reach _).congr (State.expireNormal_sameCapacity _ _)).arbitrate
      · exact h
    · exact h
  | probeDeadlineExpiry tag =>
    obtain rfl := Host.Outcome.next.inj run
    refine h.whenRunning ?_
    split
    · split
      · exact h
      · exact ((h.reach _).congr (State.failProbe_sameCapacity _ _ _)).arbitrate
    · exact h
  | sampleTimerExpiry =>
    obtain rfl := Host.Outcome.next.inj run
    exact h.whenRunning (h.atExpiry fun e _ => (h.reach e).sampleAct)
  | dwellExpiry =>
    obtain rfl := Host.Outcome.next.inj run
    exact h.whenRunning (h.atExpiry fun e _ => (h.reach e).dwellAct)
  | envelopeStepExpiry n =>
    obtain rfl := Host.Outcome.next.inj run
    exact h.whenRunning (h.atExpiry fun e _ => (h.reach e).congr (State.envelopeAct_sameCapacity n _))

end Sys2Proof.Machine

open Sys2Proof Sys2Proof.Machine

/-- Settles O59: each command re-runs the allocation, or recomputes U, where it changes what they are computed from, and an
idle step changes none of it. -/
theorem everyStepKeepsCapacityCurrent : Obligations.EveryStepKeepsCapacityCurrent := by
  intro s t controlled h run
  rcases step_cases run with rfl | ⟨c, rest, -, run⟩
  · exact h.congr s.idle_sameCapacity
  · have queued : ({ s with pending := rest } : State).capacityCurrent := h.congr ⟨rfl, rfl, rfl, fun _ => rfl⟩
    exact queued.exec (controlled.of_streams fun _ => rfl) c run

end

section
namespace Sys2Proof.Machine

/-! ## RESTART ALL (R94, R173) -/

theorem State.closeAll_eq (s : State) : ∃ streams, s.closeAll =
    { s with pool := { s.pool with records := [] }, arb := { s.arb with rotation := 3, probeRotation := 3 },
             streams := streams } := ⟨_, rfl⟩

theorem State.resetLink_eq (s : State) : ∃ streams, s.resetLink =
    { s with est := Estimator.reset s.now, cls := Classifier.reset, sharing := Sharing.reset, arb := Arbiter.reset,
             dev := DeviceFlags.reset, streams := streams } := ⟨_, rfl⟩

end Sys2Proof.Machine

open Sys2Proof Sys2Proof.Machine

/-- Settles O17: every slot closed, the blocks of the link reset and the queue emptied before the two frames join it. -/
theorem restartAllResetsTheLink : Obligations.RestartAllResetsTheLink := by
  intro s door
  have parsed : parseRestart [2] = .ok .all := rfl
  obtain ⟨closed, close⟩ := s.popFrame.closeAll_eq
  obtain ⟨reset, restart⟩ := s.popFrame.closeAll.resetLink_eq
  refine ⟨((s.popFrame.closeAll.resetLink.setQueue []).reply 0x02 .ok []).pushTx (.hello .restart), ?_, ?_, fun n => ?_⟩
  · change Host.Outcome.next (s.requestIf (restartRow .all [2]) 0x02 [2] _ _) = _
    rw [State.requestIf, if_pos (show restartRow .all [2] = true from rfl)]
    exact State.next_request_of_ok door parsed
  · rw [restart, close]; rfl
  · exact s.popFrame.closeAll.resetLink_stream n

end

section
namespace Sys2Proof.Machine

/-! ## U and the shares recomputed, as one change (R105, R124) -/

theorem State.reallocate_eq (s : State) : s.reallocate = { s with streams := s.reallocate.streams } := rfl

theorem State.recomputeUsable_eq (s : State) : s.recomputeUsable =
    { s with est := { s.est with usable := s.usableNow }, streams := s.recomputeUsable.streams } := rfl

/-! ## LIMITS (R100, R103, R105, R124, R167) -/

variable (s : State) (r : LimitsReq)

/-- What LIMITS has written before U and the shares are computed (R100, R167). -/
def State.limitsWritten : State := (s.writeLimits r).loadStart r.startEstimate

theorem State.limitsWritten_eq : s.limitsWritten r =
    { s.writeLimits r with est := { s.est with
        sagLimit := r.sagLimit, startEstimate := r.startEstimate,
        fast := if r.startEstimate = s.est.startEstimate then s.est.fast else r.startEstimate,
        slow := if r.startEstimate = s.est.startEstimate then s.est.slow else r.startEstimate,
        estimate := if r.startEstimate = s.est.startEstimate then s.est.estimate else r.startEstimate } } := by
  by_cases same : r.startEstimate = s.est.startEstimate
  · simp only [if_pos same]
    rw [same]
    exact if_pos same
  · simp only [if_neg same]
    exact if_neg same

theorem State.limitsWritten_stream (n : Slot) : (s.limitsWritten r).stream n = s.stream n := by
  rw [State.limitsWritten_eq]; rfl

/-- The start estimate differs, and is loaded into E, or the link ceiling does: U is to be recomputed (R105, R167). -/
def State.limitsMove : Prop := r.startEstimate ≠ s.est.startEstimate ∨ r.linkCeiling ≠ s.sharing.linkCeiling

variable {s r}

theorem State.applyLimits_of_move (h : s.limitsMove r) : s.applyLimits r = (s.limitsWritten r).recomputeUsable := if_pos h

theorem State.applyLimits_of_protect (h : ¬s.limitsMove r) (protect : r.protect ≠ s.sharing.protect) :
    s.applyLimits r = (s.limitsWritten r).reallocate := (if_neg h).trans (if_pos protect)

theorem State.applyLimits_of_same (h : ¬s.limitsMove r) (protect : r.protect = s.sharing.protect) :
    s.applyLimits r = s.limitsWritten r := (if_neg h).trans (if_neg fun changed => changed protect)

/-- Beside what is written LIMITS changes U and streams alone. -/
theorem State.applyLimits_eq (s : State) (r : LimitsReq) : s.applyLimits r = { s.limitsWritten r with
    est := { (s.limitsWritten r).est with usable := (s.applyLimits r).est.usable },
    streams := (s.applyLimits r).streams } := by
  by_cases move : s.limitsMove r
  · rw [State.applyLimits_of_move move]; exact State.recomputeUsable_eq _
  · by_cases protect : r.protect = s.sharing.protect
    · rw [State.applyLimits_of_same move protect]
    · rw [State.applyLimits_of_protect move protect]; exact State.reallocate_eq _

theorem State.applyLimits_usable_of_not_move (h : ¬s.limitsMove r) : (s.applyLimits r).est.usable = s.est.usable := by
  have written : (s.limitsWritten r).est.usable = s.est.usable := by rw [State.limitsWritten_eq]
  by_cases protect : r.protect = s.sharing.protect
  · rw [State.applyLimits_of_same h protect, written]
  · rw [State.applyLimits_of_protect h protect, (State.reallocate_blocks _).est, written]

/-- The shares of a stream, where LIMITS has them computed, are those of the state it leaves (R124). -/
theorem State.applyLimits_stream (h : s.limitsMove r ∨ r.protect ≠ s.sharing.protect) (n : Slot) :
    (s.applyLimits r).stream n = { s.stream n with
      share := shareIn ((s.applyLimits r).allocation (s.applyLimits r).est.usable) n } := by
  by_cases move : s.limitsMove r
  · rw [State.applyLimits_of_move move, State.recomputeUsable_stream, State.limitsWritten_stream]
  · rw [State.applyLimits_of_protect move (h.resolve_left move), State.reallocate_allocation, State.reallocate_stream,
      State.limitsWritten_stream, (State.reallocate_blocks _).est]

end Sys2Proof.Machine

open Sys2Proof Sys2Proof.Machine

/-- Settles O18: what is written, then U and the shares where they depend on it, then the arbitration. -/
theorem limitsWritesItsEightValues : Obligations.LimitsWritesItsEightValues := by
  intro s r ok threshold door load capacity
  have whole := s.popFrame.applyLimits_eq r
  rw [s.popFrame.limitsWritten_eq r] at whole
  have usable_of_move : capacity → (s.popFrame.applyLimits r).est.usable =
      min ((s.popFrame.applyLimits r).est.estimate * s.cls.zone.utilisation / 100 * s.est.sagTrim / 16) r.linkCeiling :=
    fun move => by
      rw [State.applyLimits_of_move (s := s.popFrame) move, (State.recomputeUsable_blocks _).est,
        s.popFrame.limitsWritten_eq r]
      rfl
  have usable_of_not : ¬capacity → (s.popFrame.applyLimits r).est.usable = s.est.usable :=
    State.applyLimits_usable_of_not_move (s := s.popFrame)
  have shares : capacity ∨ r.protect ≠ s.sharing.protect → ∀ m, _ := State.applyLimits_stream (s := s.popFrame)
  have kept : ¬capacity ∧ r.protect = s.sharing.protect → ∀ m, (s.popFrame.applyLimits r).stream m = s.stream m :=
    fun ⟨not, protect⟩ m => by
      rw [State.applyLimits_of_same (s := s.popFrame) not protect]; exact s.popFrame.limitsWritten_stream r m
  have acts := State.next_request_of_ok (check := fun _ => parseLimits (limitsBody r))
    (act := fun r s => (s.applyLimits r).arbitrate.reply 0x03 .ok []) door (parseLimits_limitsBody ok threshold)
  generalize s.popFrame.applyLimits r = p at *
  have fast := congrArg (fun p : State => p.est.fast) whole
  have slow := congrArg (fun p : State => p.est.slow) whole
  have estimate := congrArg (fun p : State => p.est.estimate) whole
  dsimp only at fast slow estimate
  refine ⟨p, acts, fun moved => ?_, fun same => ?_, usable_of_move, usable_of_not, shares, kept, ?_⟩
  · exact ⟨fast.trans (if_neg moved), slow.trans (if_neg moved), estimate.trans (if_neg moved)⟩
  · have held := not_not.mp same
    exact ⟨fast.trans (if_pos held), slow.trans (if_pos held), estimate.trans (if_pos held)⟩
  · rw [fast, slow, estimate]
    exact whole

end

section
namespace Sys2Proof.Machine

/-! ## The sample timer (R96, R97) -/

theorem Estimator.sampled_eq (e : Estimator) : e.sampled =
    { e with
      fast := if e.intervalBusy then (e.fast + e.sample) / 2 else e.fast,
      slow := if e.intervalBusy then (7 * e.slow + e.sample) / 8 else e.slow,
      estimate := if e.intervalBusy then min (if e.intervalBusy then (e.fast + e.sample) / 2 else e.fast)
        (if e.intervalBusy then (7 * e.slow + e.sample) / 8 else e.slow) else e.estimate } := by
  unfold Estimator.sampled
  by_cases busy : e.intervalBusy = true
  · simp only [if_pos busy]
  · simp only [if_neg busy]

variable (s : State)

/-- The estimator with the sample taken and the next interval begun (R96, R97). -/
def State.sampleTaken : State :=
  { s with est := { s.est.sampled with
      intervalBytes := 0, intervalBusy := decide (1 ≤ s.liveCount), sampleTimer := s.est.sampleTimer + 500 } }

theorem State.sampleAct_of_same (h : s.est.sampled.estimate = s.est.estimate) : s.sampleAct = s.sampleTaken := by
  unfold State.sampleAct State.sampleTaken
  dsimp only
  rw [if_pos h, Estimator.sampled_eq]

theorem State.sampleAct_of_moved (h : s.est.sampled.estimate ≠ s.est.estimate) :
    s.sampleAct = s.sampleTaken.recomputeUsable := by
  unfold State.sampleAct State.sampleTaken
  dsimp only
  rw [if_neg h, Estimator.sampled_eq]

/-! ## Changes of zone (R111, R113, R146) -/

variable {s} {was z : Zone}

/-- A change of zone raises ZONE (R176). -/
theorem State.toZone_of_ne (h : s.cls.zone ≠ z) :
    s.toZone z = afterDeviceFlag { s with cls := { s.cls with zone := z } } s.rx 0 := by
  unfold State.toZone State.raiseDeviceIf
  rw [if_pos (bne_iff_ne.mpr h)]
  exact State.raiseDevice_eq _ .zone

/-- Neither into JAMMED nor out of it the step timers are told nothing (R146). -/
theorem State.zoneTold_of_ne_jammed (zone : s.cls.zone ≠ .jammed) (h : was ≠ .jammed) : s.zoneTold was = s := by
  unfold State.zoneTold
  rw [if_neg zone, if_neg h, ite_self]

/-- Out of JAMMED the step timer of every stream below its top rung starts from zero (R146). -/
theorem State.zoneTold_of_jammed (zone : s.cls.zone ≠ .jammed) : s.zoneTold .jammed =
    s.forSlots fun n s => s.modStream n fun st => { st with stepTimer := s.restartedStep st st.ceiling } := by
  unfold State.zoneTold
  rw [if_neg zone, if_neg zone, if_pos rfl]

theorem State.zoneTold_eq (s : State) (was : Zone) : s.zoneTold was = { s with streams := (s.zoneTold was).streams } := by
  unfold State.zoneTold
  split
  · rfl
  · split
    · rfl
    · split <;> rfl

theorem State.zoneTold_stream (zone : s.cls.zone ≠ .jammed) (n : Slot) : (s.zoneTold was).stream n = { s.stream n with
    stepTimer := if was = .jammed then
      if (s.stream n).ceiling < (s.stream n).ladder.length - 1 then some (s.now + (s.stream n).cfg.envelopePeriod) else none
      else (s.stream n).stepTimer } := by
  by_cases h : was = .jammed
  · subst h
    rw [State.zoneTold_of_jammed zone]
    simp only [if_true]
    refine State.forSlots_stream_of (P := fun u => u.cls.zone ≠ .jammed ∧ u.now = s.now)
      (fun n u => u.modStream n fun st => { st with stepTimer := u.restartedStep st st.ceiling })
      (fun _ st => { st with stepTimer :=
        if st.ceiling < st.ladder.length - 1 then some (s.now + st.cfg.envelopePeriod) else none })
      (fun _ _ h => h) (fun m u k h => ?_) ⟨zone, rfl⟩ n
    rw [State.stream_modStream, State.restartedStep_of_ne_jammed h.1, h.2]
  · rw [State.zoneTold_of_ne_jammed zone h, if_neg h]

/-! ## The dwell timer (R113, R115) -/

theorem Zone.below_ne {z : Zone} (h : z ≠ .clear) : z ≠ z.below := by
  cases z <;> simp_all [Zone.below]

theorem Zone.below_ne_jammed (z : Zone) : z.below ≠ .jammed := by cases z <;> exact nofun

/-- The zone fallen by one level with ZONE, and the dwell timer restarted where the raw level is still below (R113). -/
def State.zoneFallen (s : State) : State :=
  let dev := { s.dev with flags := withFlag s.dev.flags 0 }
  { s with
    cls := { s.cls with
      zone := s.cls.zone.below,
      dwellTimer := if s.cls.raw.code < s.cls.zone.below.code then some (s.now + s.cls.dwell) else none },
    dev := dev, tx := { s.tx with queue := s.tx.queue ++ noteFor s { s with dev := dev } } }

theorem State.dwellAct_of_ne_clear (h : s.cls.zone ≠ .clear) :
    s.dwellAct = (s.zoneFallen.zoneTold s.cls.zone).recomputeUsable := by
  have fall := State.toZone_of_ne (s := { s with cls := { s.cls with
    dwellTimer := if s.cls.raw.code < s.cls.zone.below.code then some (s.now + s.cls.dwell) else none } })
    (Zone.below_ne h)
  unfold State.dwellAct
  dsimp only
  rw [fall]
  rfl

/-- An expiry taken ahead of its time moves the clock alone (log entry 4). -/
theorem State.reach_eq (s : State) (e : Nat) : ∃ micros, s.reach e = { s with now := max s.now e, micros := micros } := by
  by_cases ahead : s.now < e
  · exact ⟨0, (if_pos ahead).trans (by rw [max_eq_right ahead.le])⟩
  · exact ⟨s.micros, (if_neg ahead).trans (by rw [max_eq_left (not_lt.mp ahead)])⟩

end Sys2Proof.Machine

open Sys2Proof Sys2Proof.Machine

/-- Settles O44: the sample, and U where it moved E; the fall of the zone, the step timers told of it, and U. -/
theorem linkTimersExpire : Obligations.LinkTimersExpire := by
  intro s running sample fast slow estimate
  refine ⟨?_, fun timer => State.expiry_of_none running timer _, fun e timer notClear => ?_⟩
  · have acts : exec .sampleTimerExpiry s = .next ((s.reach s.est.sampleTimer).sampleAct) :=
      State.expiry_of_some running rfl _
    obtain ⟨micros, reached⟩ := s.reach_eq s.est.sampleTimer
    have taken : (s.reach s.est.sampleTimer).sampleTaken = { s.reach s.est.sampleTimer with est := { s.est with
        fast := fast, slow := slow, estimate := estimate, intervalBytes := 0,
        intervalBusy := decide (1 ≤ s.pool.records.length), sampleTimer := s.est.sampleTimer + 500 } } := by
      rw [State.sampleTaken, Estimator.sampled_eq, reached]
      rfl
    have sampled : (s.reach s.est.sampleTimer).est.sampled.estimate = estimate := by
      rw [Estimator.sampled_eq, State.reach_est]
      rfl
    have est := s.reach_est s.est.sampleTimer
    by_cases same : estimate = s.est.estimate
    · have act := State.sampleAct_of_same (s.reach s.est.sampleTimer) (by rw [sampled, est]; exact same)
      refine ⟨_, acts, ?_, fun n => ?_⟩
      · rw [act, taken, if_pos same]
      · rw [act, taken, if_pos same, reached]
        rfl
    · have act := State.sampleAct_of_moved (s.reach s.est.sampleTimer) (by rw [sampled, est]; exact same)
      refine ⟨_, acts, ?_, fun n => ?_⟩
      · rw [act, State.recomputeUsable_eq, taken, if_neg same, reached]
        rfl
      · rw [act, State.recomputeUsable_stream, taken, if_neg same, reached]
        rfl
  · intro zone now dev
    have acts : exec .dwellExpiry s = .next ((s.reach e).dwellAct) := State.expiry_of_some running timer _
    have zone_eq : zone = s.cls.zone.below := by
      change (match s.cls.zone with | .jammed => Zone.crowded | .crowded => .busy | .busy | .clear => .clear) = _
      cases s.cls.zone <;> rfl
    clear_value zone
    subst zone_eq
    obtain ⟨micros, reached⟩ := s.reach_eq e
    have fallen : (s.reach e).dwellAct = ((s.reach e).zoneFallen.zoneTold s.cls.zone).recomputeUsable := by
      rw [reached]; exact State.dwellAct_of_ne_clear notClear
    refine ⟨_, acts, ?_, fun n => ?_⟩
    · rw [fallen, State.recomputeUsable_eq, State.zoneTold_eq, reached]
      rfl
    · rw [fallen, State.recomputeUsable_stream, State.zoneTold_stream (Zone.below_ne_jammed _), reached]
      rfl

end

section
namespace Sys2Proof.Machine

/-! ## LINK: the raw level (R110) -/

theorem Zone.code_injective : Function.Injective Zone.code := by
  intro a b h
  cases a <;> cases b <;> simp_all [Zone.code]

/-- Either value that reaches the level above both takes the higher there. -/
theorem Zone.higher_ite {z a b : Zone} (ha : a.code ≤ z.code) (hb : b.code ≤ z.code) (p q : Prop)
    [Decidable p] [Decidable q] :
    (if p then z else a).higher (if q then z else b) = if p ∨ q then z else a.higher b := by
  have left : a.higher z = z := by
    unfold Zone.higher; split
    · rfl
    · exact Zone.code_injective (by omega)
  have right : z.higher b = z := if_neg (by omega)
  have both : z.higher z = z := if_neg (by omega)
  by_cases hp : p
  · by_cases hq : q <;> simp [hp, hq, right, both]
  · by_cases hq : q <;> simp [hp, hq, left]

theorem Zone.code_le (z : Zone) : z.code ≤ Zone.jammed.code := by cases z <;> decide

theorem Classifier.rawLevel_eq (c : Classifier) (retry airtime : Nat) : c.rawLevel retry airtime =
    if c.retry.jammed ≤ retry ∨ c.airtime.jammed ≤ airtime then .jammed
    else if c.retry.crowded ≤ retry ∨ c.airtime.crowded ≤ airtime then .crowded
    else if c.retry.busy ≤ retry ∨ c.airtime.busy ≤ airtime then .busy else .clear := by
  have low : ∀ (p : Prop) [Decidable p], (if p then Zone.busy else .clear).code ≤ Zone.crowded.code := fun p _ => by
    split <;> decide
  unfold Classifier.rawLevel levelAt
  rw [Zone.higher_ite (Zone.code_le _) (Zone.code_le _), Zone.higher_ite (low _) (low _),
    Zone.higher_ite (by decide) (by decide)]
  rfl

/-! ## Device flags and the NOTE they call (R176, R178) -/

/-- The device flags become `d`, with the NOTE that the change calls for. -/
def State.withDevice (s : State) (d : DeviceFlags) : State :=
  { s with dev := d, tx := { s.tx with queue := s.tx.queue ++ noteFor s { s with dev := d } } }

theorem State.withDevice_self (s : State) : s.withDevice s.dev = s := by
  unfold State.withDevice
  rw [noteFor_self, List.append_nil]

theorem State.raiseDevice_eq_withDevice (s : State) (f : DeviceFlag) :
    s.raiseDevice f = s.withDevice { s.dev with flags := withFlag s.dev.flags f.bit } := s.raiseDevice_eq f

theorem State.raiseDeviceIf_eq_withDevice (s : State) (c : Bool) (f : DeviceFlag) : s.raiseDeviceIf c f =
    s.withDevice { s.dev with flags := if c then withFlag s.dev.flags f.bit else s.dev.flags } := by
  cases c with
  | true => exact s.raiseDevice_eq_withDevice f
  | false => exact s.withDevice_self.symm

/-- Two raises in turn call the one NOTE of both. -/
theorem State.raiseDeviceIf_raiseDevice (s : State) (c : Bool) (f g : DeviceFlag) : (s.raiseDeviceIf c f).raiseDevice g =
    s.withDevice { s.dev with
      flags := withFlag (if c then withFlag s.dev.flags f.bit else s.dev.flags) g.bit } := by
  have first := State.QueueAfter.raiseDeviceIf [] s c f
  have second := (s.raiseDeviceIf c f).raiseDevice_summary g
  rw [State.raiseDeviceIf_eq_withDevice] at first second ⊢
  rw [State.raiseDevice_eq_withDevice] at second ⊢
  have notes := noteFor_append first.summary second first.waiting
  refine congrArg (fun queue => ({ s with
    dev := { s.dev with flags := withFlag (if c then withFlag s.dev.flags f.bit else s.dev.flags) g.bit },
    tx := { s.tx with queue := queue } } : State)) ?_
  exact (List.append_assoc _ _ _).trans (congrArg (s.tx.queue ++ ·) notes)

/-! ## LINK without entry to JAMMED (R101, R102, R111, R112, R115, R117) -/

/-- A report's trim, raw level, zone, dwell timer and device flags, before ceilings, U and the shares (R115). -/
def State.linkReported (s : State) (rtt : Nat) (raw : Zone) : State :=
  let sagged := if s.est.sagTrim < 16 ↔ s.est.trimAfter rtt < 16 then s.dev.flags else withFlag s.dev.flags 1
  { s with
    est := { s.est with sagTrim := s.est.trimAfter rtt },
    cls := { s.cls with
      raw := raw, zone := if s.cls.zone.code < raw.code then raw else s.cls.zone,
      dwellTimer := if raw.code < s.cls.zone.code then some (s.cls.dwellTimer.getD (s.now + s.cls.dwell)) else none }
    }.withDevice { s.dev with flags := if s.cls.zone.code < raw.code then withFlag sagged 0 else sagged }

theorem sag_flags (flags : BitVec 4) (a b : Prop) [Decidable a] [Decidable b] :
    (if (decide a != decide b) = true then withFlag flags DeviceFlag.sag.bit else flags) =
      if a ↔ b then flags else withFlag flags 1 := by
  by_cases ha : a <;> by_cases hb : b <;> simp [ha, hb, DeviceFlag.bit]

variable {s : State} {raw : Zone}

/-- Neither the sag's flag nor its NOTE depends on the classifier. -/
theorem State.raiseDeviceIf_withCls (s : State) (b : Bool) (f : DeviceFlag) (c : Classifier) :
    { s.raiseDeviceIf b f with cls := c } = { s with cls := c }.raiseDeviceIf b f := by
  rw [State.raiseDeviceIf_eq_withDevice, State.raiseDeviceIf_eq_withDevice]
  rfl

/-- A report above the zone, JAMMED apart: the zone rises to it, and entry to CROWDED takes every ceiling down (R111, R117). -/
theorem State.classify_of_rise (s : State) (rtt : Nat) (rise : s.cls.zone.code < raw.code) (notJammed : raw ≠ .jammed) :
    (s.sagStep rtt).classify raw =
      if raw = .crowded then (s.linkReported rtt raw).crowdedFall else s.linkReported rtt raw := by
  have cls : (s.sagStep rtt).cls = s.cls := by
    change (State.raiseDeviceIf _ _ _).cls = _
    rw [State.raiseDeviceIf_eq_withDevice]; rfl
  have moved : s.cls.zone ≠ raw := fun same => lt_irrefl _ (same ▸ rise)
  have risen : { s.sagStep rtt with cls := { s.cls with raw := raw, dwellTimer := none } }.toZone raw =
      s.linkReported rtt raw := by
    unfold State.toZone State.sagStep State.linkReported
    dsimp only
    rw [bne_iff_ne.mpr moved, State.raiseDeviceIf_withCls, State.raiseDeviceIf, if_pos rfl,
      State.raiseDeviceIf_raiseDevice, sag_flags, if_pos rise, if_pos rise, if_neg rise.le.not_gt]
    rfl
  have enters : (s.cls.zone.code < Zone.crowded.code ∧ Zone.crowded.code ≤ raw.code) ↔ raw = .crowded := by
    cases raw with
    | crowded => exact iff_of_true ⟨rise, le_rfl⟩ rfl
    | jammed => exact absurd rfl notJammed
    | clear | busy => exact iff_of_false (fun h => absurd h.2 (by decide)) nofun
  unfold State.classify State.zoneRise
  dsimp only
  rw [cls, if_pos rise, risen, if_neg notJammed]
  simp only [enters]

/-- A report at or below the zone: the dwell timer runs below it and stops at it (R112). -/
theorem State.classify_of_not_rise (s : State) (rtt : Nat) (low : ¬s.cls.zone.code < raw.code) :
    (s.sagStep rtt).classify raw = s.linkReported rtt raw := by
  have sagged := State.raiseDeviceIf_eq_withDevice { s with est := { s.est with sagTrim := s.est.trimAfter rtt } }
    (decide (s.est.sagTrim < 16) != decide (s.est.trimAfter rtt < 16)) .sag
  have step : s.sagStep rtt = _ := sagged
  have cls : (s.sagStep rtt).cls = s.cls := by rw [step]; rfl
  unfold State.classify State.linkReported
  dsimp only
  rw [cls, if_neg low, if_neg low, if_neg low, State.dwellStep, step, sag_flags]
  rfl

/-- A stream with a ladder after entry to CROWDED: its ceiling one lower, its pending probe cancelled, its step timer restarted
(R117, R142). -/
def Stream.crowdFallen (st : Stream) (now : Nat) : Stream :=
  { st with
    ceiling := st.ceiling - 1, probePending := false,
    stepTimer := if st.ceiling - 1 < st.ladder.length - 1 then some (now + st.cfg.envelopePeriod) else none }

theorem State.crowdedFall_stream_of_ne_jammed (zone : s.cls.zone ≠ .jammed) (n : Slot) :
    s.crowdedFall.stream n = if (s.stream n).ladder = [] then s.stream n else (s.stream n).crowdFallen s.now := by
  refine State.forSlots_stream_of (P := fun u => u.cls.zone ≠ .jammed ∧ u.now = s.now)
    (fun n u => u.fall n ((u.stream n).ceiling - 1)) (fun _ st => if st.ladder = [] then st else st.crowdFallen s.now)
    (fun _ _ h => h) (fun m u k h => ?_) ⟨zone, rfl⟩ n
  unfold State.fall Stream.crowdFallen
  rw [State.stream_modStream]
  by_cases same : m = k
  · subst same
    rw [if_pos rfl, if_pos rfl]
    by_cases ladder : (u.stream m).ladder = []
    · rw [if_pos ladder, if_neg fun held => (Stream.hasLadder_iff _).mp held ladder]
    · rw [if_neg ladder, if_pos ((Stream.hasLadder_iff _).mpr ladder), State.restartedStep_of_ne_jammed h.1, h.2,
        min_eq_right (Nat.sub_le _ _)]
  · rw [if_neg same, if_neg same]

/-- A report before U and the shares: with the falls of entry to CROWDED (R117). -/
def State.linkHeard (s : State) (rtt : Nat) (raw : Zone) : State :=
  if s.cls.zone.code < raw.code ∧ raw = .crowded then (s.linkReported rtt raw).crowdedFall else s.linkReported rtt raw

theorem State.linkHeard_eq (s : State) (rtt : Nat) (raw : Zone) :
    s.linkHeard rtt raw = { s.linkReported rtt raw with streams := (s.linkHeard rtt raw).streams } := by
  unfold State.linkHeard
  split <;> rfl

theorem State.linkHeard_stream (s : State) (rtt : Nat) (raw : Zone) (n : Slot) : (s.linkHeard rtt raw).stream n =
    if s.cls.zone.code < raw.code ∧ raw = .crowded ∧ (s.stream n).ladder ≠ [] then (s.stream n).crowdFallen s.now
    else s.stream n := by
  unfold State.linkHeard
  by_cases entry : s.cls.zone.code < raw.code ∧ raw = .crowded
  · have zone : (s.linkReported rtt raw).cls.zone ≠ .jammed := by
      change (if s.cls.zone.code < raw.code then raw else s.cls.zone) ≠ _
      rw [if_pos entry.1, entry.2]; exact nofun
    have same : (s.linkReported rtt raw).stream n = s.stream n := rfl
    rw [if_pos entry, State.crowdedFall_stream_of_ne_jammed zone, same]
    by_cases ladder : (s.stream n).ladder = []
    · rw [if_pos ladder, if_neg fun falls => falls.2.2 ladder]
    · rw [if_neg ladder, if_pos ⟨entry.1, entry.2, ladder⟩]
      rfl
  · rw [if_neg entry, if_neg fun falls => entry ⟨falls.1, falls.2.1⟩]
    rfl

theorem State.classify_of_not_into_jammed (s : State) (rtt : Nat) (h : s.cls.zone = .jammed ∨ raw ≠ .jammed) :
    (s.sagStep rtt).classify raw = s.linkHeard rtt raw := by
  unfold State.linkHeard
  by_cases rise : s.cls.zone.code < raw.code
  · have notJammed : raw ≠ .jammed := h.resolve_left fun jammed => by
      rw [jammed] at rise; exact absurd rise raw.code_le.not_gt
    rw [State.classify_of_rise s rtt rise notJammed]
    simp only [rise, true_and]
  · rw [State.classify_of_not_rise s rtt rise, if_neg fun entry => rise entry.1]

/-- LINK without entry to JAMMED: U and the shares follow a change of trim or zone (R105, R115). -/
theorem State.linkAct_of_not_into_jammed (s : State) (r : LinkReq) (raw_eq : s.cls.rawLevel r.retry r.airtime = raw)
    (h : s.cls.zone = .jammed ∨ raw ≠ .jammed) : s.linkAct r =
      if s.est.trimAfter r.rtt ≠ s.est.sagTrim ∨ s.cls.zone.code < raw.code then (s.linkHeard r.rtt raw).recomputeUsable
      else s.linkHeard r.rtt raw := by
  have zone : (s.linkHeard r.rtt raw).cls.zone = if s.cls.zone.code < raw.code then raw else s.cls.zone := by
    rw [State.linkHeard_eq]; rfl
  have trim : (s.linkHeard r.rtt raw).est.sagTrim = s.est.trimAfter r.rtt := by
    rw [State.linkHeard_eq]; rfl
  have stays : (s.linkHeard r.rtt raw).cls.zone = s.cls.zone ↔ ¬s.cls.zone.code < raw.code := by
    rw [zone]
    by_cases rise : s.cls.zone.code < raw.code
    · rw [if_pos rise]
      exact iff_of_false (fun same => lt_irrefl _ (same ▸ rise)) (not_not.mpr rise)
    · exact iff_of_true (if_neg rise) rise
  have told : (s.linkHeard r.rtt raw).zoneTold s.cls.zone = s.linkHeard r.rtt raw := by
    by_cases rise : s.cls.zone.code < raw.code
    · have below : s.cls.zone ≠ .jammed := fun jammed => by
        rw [jammed] at rise; exact absurd rise raw.code_le.not_gt
      exact State.zoneTold_of_ne_jammed (by rw [zone, if_pos rise]; exact h.resolve_left below) below
    · exact if_pos (stays.mpr rise)
  rw [State.linkAct, raw_eq, State.classify_of_not_into_jammed s r.rtt h, told, State.linkUsable, trim]
  by_cases changed : s.est.trimAfter r.rtt ≠ s.est.sagTrim ∨ s.cls.zone.code < raw.code
  · rw [if_pos changed, if_neg (by rw [stays]; tauto)]
  · rw [if_neg changed, if_pos (by rw [stays]; tauto)]

/-- An event that frees no record and leaves every hold and every activity is followed by no arbitration (R128). -/
theorem State.settle_of_same {s t : State} (pool : t.pool = s.pool)
    (same : ∀ m, (t.stream m).hold = (s.stream m).hold ∧ (t.stream m).active = (s.stream m).active) : t.settle s = t := by
  rw [State.settle_eq 0 fun m _ => same m, (same 0).1, (same 0).2, pool]
  simp

theorem State.linkHeard_kept (s : State) (rtt : Nat) (raw : Zone) (n : Slot) :
    ((s.linkHeard rtt raw).stream n).hold = (s.stream n).hold ∧
      ((s.linkHeard rtt raw).stream n).active = (s.stream n).active := by
  rw [State.linkHeard_stream]
  split <;> exact ⟨rfl, rfl⟩

theorem State.linkHeard_pool (s : State) (rtt : Nat) (raw : Zone) : (s.linkHeard rtt raw).pool = s.pool := by
  rw [State.linkHeard_eq]; rfl

/-- A report that drops no record ends in no arbitration (R115, R128). -/
theorem State.linkAct_settle (r : LinkReq) (raw_eq : s.cls.rawLevel r.retry r.airtime = raw)
    (h : s.cls.zone = .jammed ∨ raw ≠ .jammed) : (s.linkAct r).settle s = s.linkAct r := by
  have kept := s.linkHeard_kept r.rtt raw
  have pool := s.linkHeard_pool r.rtt raw
  rw [State.linkAct_of_not_into_jammed s r raw_eq h]
  generalize s.linkHeard r.rtt raw = heard at kept pool
  split
  · refine State.settle_of_same (heard.recomputeUsable_blocks.pool.trans pool) fun m => ?_
    rw [State.recomputeUsable_stream]
    generalize shareIn _ m = share
    exact kept m
  · exact State.settle_of_same pool kept

/-- All but the streams after a report whose trim or zone changed (R104, R105). -/
theorem State.linkHeard_recomputed_eq (s : State) (rtt : Nat) (raw : Zone) :
    (s.linkHeard rtt raw).recomputeUsable = { s.linkReported rtt raw with
      est := { s.est with
        sagTrim := s.est.trimAfter rtt,
        usable := min (s.est.estimate * Zone.utilisation (if s.cls.zone.code < raw.code then raw else s.cls.zone) / 100 *
          s.est.trimAfter rtt / 16) s.sharing.linkCeiling },
      streams := (s.linkHeard rtt raw).recomputeUsable.streams } := by
  have heard_eq := s.linkHeard_eq rtt raw
  generalize s.linkHeard rtt raw = heard at heard_eq
  rw [State.recomputeUsable_eq]
  generalize heard.recomputeUsable.streams = streams
  rw [heard_eq]
  rfl

end Sys2Proof.Machine

open Sys2Proof Sys2Proof.Machine

/-- Settles O39: the report as `State.linkHeard` has it, U and the shares recomputed exactly where trim or zone changed. -/
theorem linkMovesTrimAndZone : Obligations.LinkMovesTrimAndZone := by
  intro s r one rtt retry airtime door trim raw rise zone sagged dev changed
  refine ⟨rfl, fun notInto => ?_⟩
  have raw_eq : s.popFrame.cls.rawLevel r.retry r.airtime = raw := Classifier.rawLevel_eq _ _ _
  have acted := s.popFrame.linkAct_of_not_into_jammed r raw_eq notInto
  have outcome : exec (.link (linkBody r)) s = .next ((s.popFrame.linkAct r).pushTx (.reply 0x9B [0x00])) := by
    refine (State.next_request_of_ok (a := r) door (parseLink_linkBody one rtt retry airtime)).trans (congrArg _ ?_)
    rw [State.linkAct_settle r raw_eq notInto]
    rfl
  have stream := s.popFrame.linkHeard_stream r.rtt raw
  refine ⟨_, outcome, ?_⟩
  by_cases moved : changed
  · rw [acted.trans (if_pos moved)]
    refine ⟨?_, fun still => absurd moved still, fun _ n => ?_⟩
    · rw [if_pos moved]
      exact s.popFrame.linkHeard_recomputed_eq r.rtt raw
    · rw [State.recomputeUsable_stream, stream]
      generalize shareIn _ n = share
      dsimp only
      by_cases falls : rise ∧ raw = .crowded ∧ (s.stream n).ladder ≠ []
      · rw [if_pos falls]
        exact congrArg (fun st : Stream => { st with share := share }) (if_pos falls)
      · rw [if_neg falls]
        exact congrArg (fun st : Stream => { st with share := share }) (if_neg falls)
  · rw [acted.trans (if_neg moved)]
    refine ⟨?_, fun _ n => ?_, fun now => absurd now moved⟩
    · rw [if_neg moved]
      exact s.popFrame.linkHeard_eq r.rtt raw
    · rw [stream, if_neg fun falls => moved (.inr falls.1)]
      rfl

end

section
namespace Sys2Proof.Machine

/-! ## PROBE (R128, R148) -/

variable {s : State} {n : Slot}

/-- The checks of a PROBE for an open slot, in their order (R148). -/
theorem State.checkProbe_eq (opened : (s.stream n).state ≠ .closed) :
    s.checkProbe [byte n.val] =
      if (s.stream n).probePending ∨ (s.stream n).probeLive then .error .busy
      else if (s.stream n).state ≠ .playing ∨ s.cls.zone = .jammed ∨ (s.stream n).current = (s.stream n).top then
        .error .notNow
      else .ok n := by
  simp only [State.checkProbe, State.openStream_of_open (slot := id) (parseSlot_byte n) opened]

end Sys2Proof.Machine

open Sys2Proof Sys2Proof.Machine

/-- Settles O34: the two checks in their order decide between the pending probe and the refusals. -/
theorem probeMakesAProbePending : Obligations.ProbeMakesAProbePending := by
  intro s n opened door st busy notNow
  have check := State.checkProbe_eq (s := s.popFrame) opened
  refine ⟨fun free now => ?_, fun taken => ?_, fun free refused => ?_⟩
  · exact State.next_request_of_ok door ((check.trans (if_neg free)).trans (if_neg now))
  · exact State.next_request_of_error (check := fun s => s.checkProbe [byte n.val]) door (check.trans (if_pos taken))
  · exact State.next_request_of_error (check := fun s => s.checkProbe [byte n.val]) door
      ((check.trans (if_neg free)).trans (if_pos refused))

end

section
namespace Sys2Proof.Machine

/-! ## The allocation: the filling rounds (R123)

A round works on what is left of U and on each stream's need. -/

/-- The streams of `l` with a need. -/
def uncappedIn (l : List Slot) (x : Nat × (Slot → Nat)) : List Slot := l.filter fun n => decide (0 < x.2 n)

/-- What a round gives a stream: its portion by weight, or its need where that is less. -/
def givenIn (l : List Slot) (w : Slot → Nat) (x : Nat × (Slot → Nat)) (n : Slot) : Nat :=
  min (x.2 n) (x.1 * w n / ((uncappedIn l x).map w).sum)

/-- What a round leaves, of U and of each stream's need. -/
def roundIn (l : List Slot) (w : Slot → Nat) (x : Nat × (Slot → Nat)) : Nat × (Slot → Nat) :=
  (x.1 - ((uncappedIn l x).map (givenIn l w x)).sum, fun n => x.2 n - givenIn l w x n)

theorem roundIn_need (l : List Slot) (w : Slot → Nat) (x : Nat × (Slot → Nat)) (n : Slot) :
    (roundIn l w x).2 n = x.2 n - givenIn l w x n := rfl

/-- What a round takes off a need is what it gives. -/
theorem sub_roundIn (l : List Slot) (w : Slot → Nat) (x : Nat × (Slot → Nat)) (n : Slot) :
    x.2 n - (roundIn l w x).2 n = givenIn l w x n := Nat.sub_sub_self (Nat.min_le_left _ _)

/-- The round caps a stream. -/
def CapsIn (l : List Slot) (w : Slot → Nat) (x : Nat × (Slot → Nat)) : Prop :=
  ∃ n ∈ uncappedIn l x, (roundIn l w x).2 n = 0

/-- From `x` there are `k` rounds: each had something to give and a stream to give it to, and they end as R123 says. -/
def RoundsEnd (l : List Slot) (w : Slot → Nat) (x : Nat × (Slot → Nat)) (k : Nat) : Prop :=
  (∀ j, j < k → 0 < ((roundIn l w)^[j] x).1 ∧ uncappedIn l ((roundIn l w)^[j] x) ≠ [] ∧
    (j + 1 < k → CapsIn l w ((roundIn l w)^[j] x))) ∧
  (((roundIn l w)^[k] x).1 = 0 ∨ uncappedIn l ((roundIn l w)^[k] x) = [] ∨
    ∃ j, j + 1 = k ∧ ¬CapsIn l w ((roundIn l w)^[j] x))

/-- The claims of the streams of `o` with these weights, needs and gifts. -/
def claimsOf (o : List Slot) (w need given : Slot → Nat) : List Claim := o.map fun n => ⟨n, w n, need n, given n⟩

section Rounds

variable {l o : List Slot} {w : Slot → Nat} {x : Nat × (Slot → Nat)} {k : Nat}

/-- Step 1 of R123: no round begins. -/
theorem RoundsEnd.none (h : x.1 = 0 ∨ uncappedIn l x = []) : RoundsEnd l w x 0 :=
  ⟨fun _ h => absurd h (Nat.not_lt_zero _), h.imp_right .inl⟩

/-- Step 5 of R123: a round that caps none is the last. -/
theorem RoundsEnd.last (left : 0 < x.1) (wants : uncappedIn l x ≠ []) (h : ¬CapsIn l w x) : RoundsEnd l w x 1 := by
  refine ⟨fun j hj => ?_, .inr (.inr ⟨0, rfl, h⟩)⟩
  obtain rfl := Nat.lt_one_iff.mp hj
  exact ⟨left, wants, fun more => absurd more (lt_irrefl 1)⟩

/-- Step 5 of R123: after a round that caps a stream the next begins. -/
theorem RoundsEnd.next (left : 0 < x.1) (wants : uncappedIn l x ≠ []) (caps : CapsIn l w x)
    (h : RoundsEnd l w (roundIn l w x) k) : RoundsEnd l w x (k + 1) := by
  obtain ⟨before, stop⟩ := h
  refine ⟨fun j hj => ?_, stop.imp_right (Or.imp_right fun ⟨j, last, calm⟩ => ⟨j + 1, congrArg _ last, calm⟩)⟩
  cases j with
  | zero => exact ⟨left, wants, fun _ => caps⟩
  | succ j =>
    obtain ⟨left', wants', caps'⟩ := before j (Nat.lt_of_succ_lt_succ hj)
    exact ⟨left', wants', fun more => caps' (Nat.lt_of_succ_lt_succ more)⟩

/-- Rounds raise no need. -/
theorem iterate_roundIn_le (k : Nat) (x : Nat × (Slot → Nat)) (n : Slot) : ((roundIn l w)^[k] x).2 n ≤ x.2 n := by
  induction k generalizing x with
  | zero => exact le_rfl
  | succ k ih => exact (ih (roundIn l w x)).trans (Nat.sub_le _ _)

/-- A round that caps a stream leaves fewer uncapped. -/
theorem CapsIn.length_lt (h : CapsIn l w x) : (uncappedIn l (roundIn l w x)).length < (uncappedIn l x).length := by
  obtain ⟨n, wants, capped⟩ := h
  have still : uncappedIn l (roundIn l w x) = (uncappedIn l x).filter fun n => decide (0 < (roundIn l w x).2 n) := by
    rw [uncappedIn, uncappedIn, List.filter_filter]
    refine List.filter_congr fun m _ => ?_
    rw [← Bool.decide_and, decide_eq_decide]
    exact ⟨fun now => ⟨now, now.trans_le (Nat.sub_le _ _)⟩, And.left⟩
  rw [still, List.length_filter_lt_length_iff_exists]
  exact ⟨n, wants, by simp [capped]⟩

/-- With weights above 0, the weights of the uncapped sum to 0 only where none is uncapped. -/
theorem sum_weights_eq_zero_iff (positive : ∀ n, 0 < w n) : (l.map w).sum = 0 ↔ l = [] := by
  cases l with
  | nil => simp
  | cons n l => simpa using fun none => absurd none (positive n).ne'

/-! ### The model's rounds are these (R123) -/

/-- What a filter leaves out does not count where it contributes 0. -/
theorem sum_map_filter_eq {α : Type} (l : List α) (p : α → Bool) (f : α → Nat) (h : ∀ a ∈ l, p a = false → f a = 0) :
    ((l.filter p).map f).sum = (l.map f).sum := by
  induction l with
  | nil => rfl
  | cons a l ih =>
    obtain ⟨first, others⟩ := List.forall_mem_cons.mp h
    cases pa : p a <;> simp [pa, ih others, first]

variable (g : Slot → Nat) (perm : o.Perm l)
include perm

theorem uncappedIn_perm (x : Nat × (Slot → Nat)) : (uncappedIn o x).Perm (uncappedIn l x) := perm.filter _

theorem uncappedWeight_claimsOf (x : Nat × (Slot → Nat)) :
    uncappedWeight (claimsOf o w x.2 g) = ((uncappedIn l x).map w).sum := by
  rw [← ((uncappedIn_perm perm x).map w).sum_eq, uncappedWeight, claimsOf, List.filter_map, List.map_map, uncappedIn]
  congr 2
  exact List.filter_congr fun n _ => Bool.eq_iff_iff.mpr (by simp [Nat.pos_iff_ne_zero])

/-- A round of the model gives what `givenIn` says. -/
theorem portion_claimsOf (x : Nat × (Slot → Nat)) (n : Slot) :
    (⟨n, w n, x.2 n, g n⟩ : Claim).portion x.1 (uncappedWeight (claimsOf o w x.2 g)) = givenIn l w x n := by
  rw [uncappedWeight_claimsOf g perm]; rfl

theorem sum_portions_claimsOf (x : Nat × (Slot → Nat)) :
    ((claimsOf o w x.2 g).map fun c => c.portion x.1 (uncappedWeight (claimsOf o w x.2 g))).sum =
      ((uncappedIn l x).map (givenIn l w x)).sum := by
  have portions : ((claimsOf o w x.2 g).map fun c => c.portion x.1 (uncappedWeight (claimsOf o w x.2 g))) =
      o.map (givenIn l w x) := by
    conv_lhs => arg 2; rw [claimsOf]
    rw [List.map_map]
    exact List.map_congr_left fun n _ => portion_claimsOf g perm x n
  rw [portions, (perm.map _).sum_eq, uncappedIn]
  exact (sum_map_filter_eq l _ _ fun n _ capped => by
    rw [givenIn, Nat.eq_zero_of_not_pos (of_decide_eq_false capped), Nat.zero_min]).symm

theorem map_take_claimsOf (x : Nat × (Slot → Nat)) :
    ((claimsOf o w x.2 g).map fun c => c.take x.1 (uncappedWeight (claimsOf o w x.2 g))) =
      claimsOf o w (roundIn l w x).2 fun n => g n + givenIn l w x n := by
  conv_lhs => arg 2; rw [claimsOf]
  rw [List.map_map]
  refine List.map_congr_left fun n _ => ?_
  simp only [Function.comp_apply, Claim.take, portion_claimsOf g perm]
  rfl

theorem capsSome_claimsOf (x : Nat × (Slot → Nat)) :
    capsSome x.1 (uncappedWeight (claimsOf o w x.2 g)) (claimsOf o w x.2 g) = true ↔ CapsIn l w x := by
  have need : ∀ n, ((⟨n, w n, x.2 n, g n⟩ : Claim).take x.1 (uncappedWeight (claimsOf o w x.2 g))).need =
      (roundIn l w x).2 n := fun n => congrArg (x.2 n - ·) (portion_claimsOf g perm x n)
  generalize uncappedWeight (claimsOf o w x.2 g) = total at need ⊢
  simp only [capsSome, claimsOf, List.any_map, List.any_eq_true, Function.comp_apply, need, Bool.and_eq_true, bne_iff_ne,
    beq_iff_eq, perm.mem_iff, CapsIn, uncappedIn, List.mem_filter, decide_eq_true_eq, Nat.pos_iff_ne_zero, and_assoc]

/-- The model's rounds, with as many allowed as there are streams uncapped, are rounds that end as R123 says, and each claim
gains what its need has lost. -/
theorem fillRounds_claimsOf (positive : ∀ n, 0 < w n) (fuel : Nat) (x : Nat × (Slot → Nat)) (g : Slot → Nat)
    (enough : (uncappedIn l x).length ≤ fuel) :
    ∃ k, RoundsEnd l w x k ∧ fillRounds fuel x.1 (claimsOf o w x.2 g) =
      claimsOf o w ((roundIn l w)^[k] x).2 fun n => g n + (x.2 n - ((roundIn l w)^[k] x).2 n) := by
  have unchanged : ∀ (x : Nat × (Slot → Nat)) g, claimsOf o w x.2 g =
      claimsOf o w x.2 fun n => g n + (x.2 n - x.2 n) := fun x g => by simp
  induction fuel generalizing x g with
  | zero => exact ⟨0, .none (.inr (List.length_eq_zero_iff.mp (Nat.le_zero.mp enough))), unchanged x g⟩
  | succ fuel ih =>
    unfold fillRounds
    dsimp only
    rw [map_take_claimsOf g perm, sum_portions_claimsOf g perm]
    split
    · rename_i exhausted
      rw [uncappedWeight_claimsOf g perm, sum_weights_eq_zero_iff positive] at exhausted
      exact ⟨0, .none exhausted.symm, unchanged x g⟩
    · rename_i runs
      rw [uncappedWeight_claimsOf g perm, sum_weights_eq_zero_iff positive, not_or] at runs
      obtain ⟨wants, left⟩ := runs
      have left := Nat.pos_of_ne_zero left
      split
      · rename_i caps
        have caps := (capsSome_claimsOf g perm x).mp caps
        obtain ⟨k, ends, filled⟩ := ih (roundIn l w x) (fun n => g n + givenIn l w x n)
          (Nat.le_of_lt_succ (caps.length_lt.trans_le enough))
        refine ⟨k + 1, ends.next left wants caps, filled.trans ?_⟩
        congr 1
        funext n
        have later : ((roundIn l w)^[k + 1] x).2 n ≤ (roundIn l w x).2 n := iterate_roundIn_le k (roundIn l w x) n
        have first : (roundIn l w x).2 n ≤ x.2 n := Nat.sub_le _ _
        have gift := sub_roundIn l w x n
        change g n + givenIn l w x n + ((roundIn l w x).2 n - ((roundIn l w)^[k + 1] x).2 n) = _
        omega
      · rename_i calm
        refine ⟨1, .last left wants fun caps => calm ((capsSome_claimsOf g perm x).mpr caps), ?_⟩
        congr 1
        funext n
        exact congrArg _ (sub_roundIn l w x n).symm

end Rounds

/-- Where every need is above its portion, one round gives each stream its portion, or none has anything to give. -/
theorem RoundsEnd.gift_of_portions_lt {l : List Slot} {w : Slot → Nat} {x : Nat × (Slot → Nat)} {k : Nat}
    (h : RoundsEnd l w x k) (wanting : ∀ n ∈ l, x.1 * w n / (l.map w).sum < x.2 n) {n : Slot} (mem : n ∈ l) :
    x.2 n - ((roundIn l w)^[k] x).2 n = x.1 * w n / (l.map w).sum := by
  have all : uncappedIn l x = l := List.filter_eq_self.mpr fun m hm =>
    decide_eq_true ((Nat.zero_le _).trans_lt (wanting m hm))
  have portion : ∀ m ∈ l, givenIn l w x m = x.1 * w m / (l.map w).sum := fun m hm => by
    rw [givenIn, all, min_eq_right (wanting m hm).le]
  have calm : ¬CapsIn l w x := fun ⟨m, hm, capped⟩ => by
    rw [all] at hm
    rw [roundIn_need, portion m hm] at capped
    exact absurd (Nat.sub_eq_zero_iff_le.mp capped) (wanting m hm).not_ge
  obtain ⟨before, stop⟩ := h
  match k with
  | 0 =>
    rcases stop with left | none | ⟨j, last, _⟩
    · have left : x.1 = 0 := left
      simp [left]
    · rw [← all] at mem
      exact absurd (none ▸ mem) List.not_mem_nil
    · cases last
  | 1 =>
    exact (sub_roundIn l w x n).trans (portion n mem)
  | k + 2 => exact absurd ((before 0 (Nat.succ_pos _)).2.2 (Nat.lt_add_of_pos_left (Nat.succ_pos k))) calm

end Sys2Proof.Machine
end

section
namespace Sys2Proof.Machine

/-! ## The allocation: the guard pass (R120, R121, R122) -/

variable (s : State)

/-- The active streams, by slot (R120). -/
def State.activeSlots : List Slot := slots.filter fun n => (s.stream n).active

/-- The stream is protected (R121). -/
def State.covered (n : Slot) : Bool := isProtected s.sharing.protect (s.stream n).cfg.priority

/-- The weight of a stream (R121). -/
def State.weight (n : Slot) : Nat := weightOf (s.stream n).cfg.priority

/-- The rate of a stream's guard rung. -/
def State.guardRate (n : Slot) : Nat := (s.stream n).rate (s.stream n).cfg.guardRung

/-- The rate of a stream's top rung. -/
def State.topRate (n : Slot) : Nat := (s.stream n).rate (s.stream n).top

/-- The guard pass takes `m` before `n` (R122). -/
def State.earlier (m n : Slot) : Bool :=
  decide ((s.stream m).cfg.priority < (s.stream n).cfg.priority ∨
    ((s.stream m).cfg.priority = (s.stream n).cfg.priority ∧ m < n))

/-- The base of a stream out of `u`, where the guard pass takes the streams of `l` (R122). -/
def State.baseIn (l : List Slot) (u : Nat) (n : Slot) : Nat :=
  if s.covered n then
    min (s.guardRate n) (u - ((l.filter fun m => s.covered m && s.earlier m n).map s.guardRate).sum)
  else 0

variable {s} {m n : Slot} {l o : List Slot}

theorem State.mem_activeSlots : n ∈ s.activeSlots ↔ (s.stream n).active = true := by
  rw [State.activeSlots, List.mem_filter, and_iff_right]
  revert n; decide

theorem State.activeSlots_length_le (s : State) : s.activeSlots.length ≤ 4 := List.length_filter_le _ _

theorem State.weight_pos (s : State) (n : Slot) : 0 < s.weight n := by
  unfold State.weight weightOf
  split <;> decide

theorem State.earlier_irrefl (s : State) (n : Slot) : s.earlier n n = false := by simp [State.earlier]

theorem State.earlier_asymm (h : s.earlier m n = true) : s.earlier n m = false := by
  simp only [State.earlier, decide_eq_true_eq, decide_eq_false_iff_not, Fin.lt_def] at *
  omega

theorem State.baseIn_le (s : State) (l : List Slot) (u : Nat) (n : Slot) : s.baseIn l u n ≤ s.guardRate n := by
  unfold State.baseIn
  split
  · exact Nat.min_le_left _ _
  · exact Nat.zero_le _

theorem State.baseIn_of_not_covered (h : s.covered n = false) (l : List Slot) (u : Nat) : s.baseIn l u n = 0 :=
  if_neg (by simp [h])

theorem State.baseIn_perm (perm : o.Perm l) (u : Nat) (n : Slot) : s.baseIn o u n = s.baseIn l u n := by
  unfold State.baseIn
  rw [((perm.filter _).map _).sum_eq]

/-- Where U covers every guard rate, each protected stream of the pass gets its own (R122). -/
theorem State.baseIn_of_covered {u : Nat} (covered : s.covered n = true) (mem : n ∈ l)
    (enough : ((l.filter s.covered).map s.guardRate).sum ≤ u) : s.baseIn l u n = s.guardRate n := by
  rw [State.baseIn, if_pos covered]
  refine min_eq_left (Nat.le_sub_of_add_le (le_trans ?_ enough))
  obtain ⟨as, bs, rfl⟩ := List.append_of_mem mem
  have fewer : ∀ l : List Slot, ((l.filter fun m => s.covered m && s.earlier m n).map s.guardRate).sum ≤
      ((l.filter s.covered).map s.guardRate).sum := fun l =>
    ((l.monotone_filter_right fun _ both => (Bool.and_eq_true_iff.mp both).1).map _).sum_le_sum fun _ _ => Nat.zero_le _
  have before := fewer as
  have after := fewer bs
  simp only [List.filter_append, List.filter_cons, covered, s.earlier_irrefl, Bool.true_and, Bool.false_eq_true, if_true,
    if_false, List.map_append, List.map_cons, List.sum_append, List.sum_cons]
  omega

/-! ### The order of the pass -/

theorem State.guardOrder_pairwise (s : State) : s.guardOrder.Pairwise fun m n => s.earlier m n = true := by
  have prio : ∀ {p : Nat} {n : Slot}, n ∈ slots.filter (fun n => (s.stream n).active && (s.stream n).cfg.priority == p) →
      (s.stream n).cfg.priority = p := fun h => by simpa using (Bool.and_eq_true_iff.mp (List.mem_filter.mp h).2).2
  rw [State.guardOrder, List.pairwise_flatMap]
  constructor
  · intro p _
    have ascending : slots.Pairwise (· < ·) := by decide
    refine (ascending.filter _).imp_of_mem fun {m n} hm hn lt => decide_eq_true (.inr ⟨?_, lt⟩)
    rw [prio hm, prio hn]
  · have ascending : [0, 1, 2, 3].Pairwise fun p q : Nat => p < q := by decide
    refine ascending.imp fun lt m hm n hn => decide_eq_true (.inl ?_)
    rwa [prio hm, prio hn]

theorem State.guardOrder_nodup (s : State) : s.guardOrder.Nodup :=
  s.guardOrder_pairwise.imp fun {m n} h same => by
    rw [same, s.earlier_irrefl] at h; cases h

/-- The guard pass takes every active stream (R122). -/
theorem State.guardOrder_perm (priorities : ∀ n, (s.stream n).cfg.priority ≤ 3) : s.guardOrder.Perm s.activeSlots := by
  have distinct : slots.Nodup := by decide
  refine (List.perm_ext_iff_of_nodup s.guardOrder_nodup (distinct.filter _)).mpr fun n => ?_
  refine ⟨fun h => State.mem_activeSlots.mpr (State.mem_guardOrder h), fun h => ?_⟩
  have listed : (s.stream n).cfg.priority ∈ [0, 1, 2, 3] := by
    have := priorities n
    simp only [List.mem_cons, List.not_mem_nil, or_false]
    omega
  refine List.mem_flatMap.mpr ⟨_, listed, ?_⟩
  obtain ⟨slot, active⟩ := List.mem_filter.mp h
  exact List.mem_filter.mpr ⟨slot, by simpa using active⟩

/-! ### The pass -/

/-- In a pass that begins with `n`, `n` gets what is left of its guard rate. -/
theorem State.baseOf_eq_baseIn (first : ∀ m ∈ l, s.earlier n m = true) (u : Nat) : s.baseOf n u = s.baseIn (n :: l) u n := by
  have none : (n :: l).filter (fun m => s.covered m && s.earlier m n) = [] := by
    rw [List.filter_eq_nil_iff]
    rintro m mem
    rcases List.mem_cons.mp mem with rfl | mem
    · simp [s.earlier_irrefl]
    · simp [State.earlier_asymm (first m mem)]
  rw [State.baseIn, none]
  rfl

/-- Taking `n` first leaves the later streams what its base leaves of U. -/
theorem State.baseIn_cons (before : s.earlier n m = true) (u : Nat) :
    s.baseIn (n :: l) u m = s.baseIn l (u - s.baseOf n u) m := by
  unfold State.baseIn
  cases covered : s.covered n with
  | false =>
    have nothing : s.baseOf n u = 0 := if_neg (by rw [← State.covered, covered]; exact Bool.false_ne_true)
    simp [covered, nothing]
  | true =>
    have base : s.baseOf n u = min (s.guardRate n) u := if_pos covered
    simp only [List.filter_cons, covered, before, Bool.and_self, if_true, List.map_cons, List.sum_cons, base]
    congr 2
    omega

/-- The guard pass over streams in its order: each claim with its base, and what is left (R122). -/
theorem State.guardPass_eq (ordered : l.Pairwise fun m n => s.earlier m n = true) (u : Nat) :
    s.guardPass u l = (u - (l.map (s.baseIn l u)).sum,
      claimsOf l s.weight (fun n => s.topRate n - s.baseIn l u n) (s.baseIn l u)) := by
  induction l generalizing u with
  | nil => rfl
  | cons n l ih =>
    obtain ⟨first, ordered⟩ := List.pairwise_cons.mp ordered
    have base := State.baseOf_eq_baseIn first u
    have rest : ∀ m ∈ l, s.baseIn l (u - s.baseOf n u) m = s.baseIn (n :: l) u m := fun m mem =>
      (State.baseIn_cons (first m mem) u).symm
    simp only [State.guardPass, ih ordered, claimsOf, List.map_cons, List.sum_cons, List.map_congr_left rest]
    rw [base, Nat.sub_sub]
    congr 2
    exact List.map_congr_left fun m mem => by rw [← base, rest m mem]

end Sys2Proof.Machine
end

section
namespace Sys2Proof.Machine

/-! ## The shares (R120, R123) -/

variable {s : State} {n : Slot}

theorem shareIn_cons (c : Claim) (cs : List Claim) (n : Slot) :
    shareIn (c :: cs) n = (if c.slot = n then c.given else 0) + shareIn cs n := by
  unfold shareIn
  by_cases same : c.slot = n <;> simp [same]

/-- The shares of all slots are all that the claims were given. -/
theorem sum_shareIn (cs : List Claim) : (slots.map (shareIn cs)).sum = (cs.map Claim.given).sum := by
  induction cs with
  | nil => rfl
  | cons c cs ih =>
    have one : (slots.map fun n => if c.slot = n then c.given else 0).sum = c.given := by
      generalize c.slot = m
      match m with
      | 0 | 1 | 2 | 3 => simp [slots]
    rw [List.map_cons, List.sum_cons, ← ih]
    conv_rhs => rw [← one]
    rw [← List.sum_map_add]
    exact congrArg List.sum (List.map_congr_left fun n _ => shareIn_cons c cs n)

/-- A stream that has one claim has the share that it was given. -/
theorem shareIn_claimsOf {o : List Slot} (distinct : o.Nodup) (mem : n ∈ o) (w need given : Slot → Nat) :
    shareIn (claimsOf o w need given) n = given n := by
  have own : o.filter (fun m => m == n) = [n] := by
    rw [List.filter_beq, List.count_eq_one_of_mem distinct mem]; rfl
  rw [shareIn, claimsOf, List.filter_map, List.map_map]
  exact (congrArg (fun l : List Slot => (l.map given).sum) own).trans (Nat.add_zero _)

/-! ### No more than U (R123) -/

/-- Quotients, each rounded down, sum to no more than the quotient of the sum. -/
theorem sum_map_div_le {α : Type} (l : List α) (f : α → Nat) (d : Nat) :
    (l.map fun a => f a / d).sum ≤ (l.map f).sum / d := by
  induction l with
  | nil => exact Nat.zero_le _
  | cons a l ih => exact (Nat.add_le_add_left ih _).trans Nat.div_add_div_le_add_div

/-- A round gives no more than is left. -/
theorem sum_portions_le (r : Nat) (cs : List Claim) : (cs.map fun c => c.portion r (uncappedWeight cs)).sum ≤ r := by
  rw [← sum_map_filter_eq cs (fun c => c.need != 0) _ fun c _ capped => by
    rw [Claim.portion, (bne_eq_false_iff_eq.mp capped), Nat.zero_min]]
  calc ((cs.filter fun c => c.need != 0).map fun c => c.portion r (uncappedWeight cs)).sum
      ≤ ((cs.filter fun c => c.need != 0).map fun c => r * c.weight / uncappedWeight cs).sum :=
        List.sum_le_sum fun c _ => Nat.min_le_right _ _
    _ ≤ ((cs.filter fun c => c.need != 0).map fun c => r * c.weight).sum / uncappedWeight cs := sum_map_div_le _ _ _
    _ = r * uncappedWeight cs / uncappedWeight cs := by rw [List.sum_map_mul_left]; rfl
    _ ≤ r := Nat.div_le_of_le_mul (Nat.mul_comm _ _).le

theorem sum_given_take (r w : Nat) (cs : List Claim) : ((cs.map fun c => c.take r w).map Claim.given).sum =
    (cs.map Claim.given).sum + (cs.map fun c => c.portion r w).sum := by
  rw [List.map_map, ← List.sum_map_add]; rfl

/-- The rounds give no more than is left at their start. -/
theorem fillRounds_given_le (k r : Nat) (cs : List Claim) :
    ((fillRounds k r cs).map Claim.given).sum ≤ (cs.map Claim.given).sum + r := by
  induction k generalizing r cs with
  | zero => exact Nat.le_add_right _ _
  | succ k ih =>
    have within := sum_portions_le r cs
    unfold fillRounds
    dsimp only
    split
    · exact Nat.le_add_right _ _
    · split
      · refine (ih _ _).trans ?_
        rw [sum_given_take]; omega
      · rw [sum_given_take]; omega

theorem State.baseOf_le (s : State) (n : Slot) (r : Nat) : s.baseOf n r ≤ r := by
  unfold State.baseOf
  dsimp only
  split
  · exact Nat.min_le_right _ _
  · exact Nat.zero_le _

/-- The guard pass gives what it takes off the remainder (R122). -/
theorem State.guardPass_given (s : State) (r : Nat) (ns : List Slot) :
    ((s.guardPass r ns).2.map Claim.given).sum + (s.guardPass r ns).1 = r := by
  induction ns generalizing r with
  | nil => exact Nat.zero_add r
  | cons n ns ih =>
    have later := ih (r - s.baseOf n r)
    have base := s.baseOf_le n r
    simp only [State.guardPass, List.map_cons, List.sum_cons]
    omega

/-- The shares together never exceed U (R123). -/
theorem State.sum_shareIn_allocation_le (s : State) (u : Nat) : (slots.map (shareIn (s.allocation u))).sum ≤ u := by
  rw [sum_shareIn]
  exact (fillRounds_given_le _ _ _).trans (s.guardPass_given u s.guardOrder).le

/-! ### The allocation as a whole -/

/-- Where the rounds start: what the bases leave of U, and each stream's need (R123). -/
def State.fillStart (s : State) (u : Nat) : Nat × (Slot → Nat) :=
  (u - (s.activeSlots.map (s.baseIn s.activeSlots u)).sum, fun n => s.topRate n - s.baseIn s.activeSlots u n)

/-- The guard pass over all streams leaves their claims where the rounds start (R122). -/
theorem State.guardPass_guardOrder (priorities : ∀ n, (s.stream n).cfg.priority ≤ 3) (u : Nat) :
    s.guardPass u s.guardOrder = ((s.fillStart u).1,
      claimsOf s.guardOrder s.weight (s.fillStart u).2 (s.baseIn s.activeSlots u)) := by
  have perm := State.guardOrder_perm priorities
  have base : s.baseIn s.guardOrder u = s.baseIn s.activeSlots u := funext fun n => State.baseIn_perm perm u n
  rw [State.guardPass_eq s.guardOrder_pairwise, base, (perm.map _).sum_eq]
  rfl

/-- The share of an active stream: its base, and what its need has lost in rounds that end as R123 says. -/
theorem State.shareIn_allocation (priorities : ∀ n, (s.stream n).cfg.priority ≤ 3) (u : Nat) :
    ∃ k, RoundsEnd s.activeSlots s.weight (s.fillStart u) k ∧ ∀ n ∈ s.activeSlots,
      shareIn (s.allocation u) n = s.baseIn s.activeSlots u n +
        ((s.fillStart u).2 n - ((roundIn s.activeSlots s.weight)^[k] (s.fillStart u)).2 n) := by
  have perm := State.guardOrder_perm priorities
  obtain ⟨k, ends, filled⟩ := fillRounds_claimsOf perm s.weight_pos 4 (s.fillStart u) (s.baseIn s.activeSlots u)
    ((List.length_filter_le _ _).trans s.activeSlots_length_le)
  refine ⟨k, ends, fun n active => ?_⟩
  rw [State.allocation, State.guardPass_guardOrder priorities]
  exact (congrArg (fun cs => shareIn cs n) filled).trans (shareIn_claimsOf s.guardOrder_nodup (perm.mem_iff.mpr active) _ _ _)

/-- No share exceeds the greater of guard rate and top rate (R123). -/
theorem State.shareIn_allocation_le (priorities : ∀ n, (s.stream n).cfg.priority ≤ 3) (u : Nat) (n : Slot) :
    shareIn (s.allocation u) n ≤ max (s.guardRate n) (s.topRate n) := by
  by_cases active : n ∈ s.activeSlots
  · obtain ⟨k, -, share⟩ := State.shareIn_allocation priorities u
    have base := s.baseIn_le s.activeSlots u n
    have need : (s.fillStart u).2 n = s.topRate n - s.baseIn s.activeSlots u n := rfl
    rw [share n active]
    omega
  · rw [State.mem_activeSlots, Bool.not_eq_true] at active
    rw [State.shareIn_of_inactive active]
    exact Nat.zero_le _

/-- Where U covers the guard rates of the protected streams, each has at least its own (R122). -/
theorem State.guardRate_le_shareIn (priorities : ∀ n, (s.stream n).cfg.priority ≤ 3) {u : Nat}
    (enough : ((s.activeSlots.filter s.covered).map s.guardRate).sum ≤ u) (active : n ∈ s.activeSlots)
    (covered : s.covered n = true) : s.guardRate n ≤ shareIn (s.allocation u) n := by
  obtain ⟨k, -, share⟩ := State.shareIn_allocation priorities u
  rw [share n active, State.baseIn_of_covered covered active enough]
  exact Nat.le_add_right _ _

/-- Where no stream is protected and no portion meets a need, the shares are the portions of U by weight (R123). -/
theorem State.shareIn_allocation_of_portions_lt (priorities : ∀ n, (s.stream n).cfg.priority ≤ 3) {u : Nat}
    (plain : ∀ n ∈ s.activeSlots, s.covered n = false ∧ u * s.weight n / (s.activeSlots.map s.weight).sum < s.topRate n)
    (active : n ∈ s.activeSlots) :
    shareIn (s.allocation u) n = u * s.weight n / (s.activeSlots.map s.weight).sum := by
  have base : ∀ m ∈ s.activeSlots, s.baseIn s.activeSlots u m = 0 := fun m mem =>
    State.baseIn_of_not_covered (plain m mem).1 _ _
  have whole : (s.fillStart u).1 = u := by
    rw [State.fillStart, List.map_congr_left base]; simp
  have need : ∀ m ∈ s.activeSlots, (s.fillStart u).2 m = s.topRate m := fun m mem =>
    congrArg (s.topRate m - ·) (base m mem)
  obtain ⟨k, ends, share⟩ := State.shareIn_allocation priorities u
  rw [share n active, base n active, Nat.zero_add,
    ends.gift_of_portions_lt (fun m mem => by rw [whole, need m mem]; exact (plain m mem).2) active, whole]

end Sys2Proof.Machine

open Sys2Proof Sys2Proof.Machine

/-- Settles O51: the guard pass gives the bases, and the model's rounds are those of R123, which end before the fifth. -/
theorem allocationSharesByWeight : Obligations.AllocationSharesByWeight := by
  intro s u cs active rate top guardRate covered weight earlier base uncapped total given round start caps priorities
  obtain ⟨k, ⟨before, stop⟩, shares⟩ := State.shareIn_allocation priorities u
  exact ⟨⟨k, before, stop, shares⟩, s.sum_shareIn_allocation_le u,
    fun n inactive => State.shareIn_of_inactive inactive u, State.shareIn_allocation_le priorities u,
    fun enough n mem guarded => State.guardRate_le_shareIn priorities enough mem guarded,
    fun plain n mem => State.shareIn_allocation_of_portions_lt priorities plain mem⟩

end

section
namespace Sys2Proof.Machine

/-! ## The normal decision (O48) -/

/-- The last number below `k` with a property, else 0: what a fold that keeps the latest hit finds. -/
theorem foldl_range_latest (p : Nat → Prop) [DecidablePred p] (k : Nat) :
    let best := (List.range k).foldl (fun best r => if p r then r else best) 0
    (∀ r, r < k → p r → r ≤ best) ∧ (best = 0 ∨ (best < k ∧ p best)) := by
  induction k with
  | zero => exact ⟨nofun, .inl rfl⟩
  | succ k ih =>
    obtain ⟨highest, found⟩ := ih
    simp only [List.range_succ, List.foldl_append, List.foldl_cons, List.foldl_nil]
    split
    · rename_i last; exact ⟨fun r hr _ => Nat.le_of_lt_succ hr, .inr ⟨k.lt_succ_self, last⟩⟩
    · rename_i last
      refine ⟨fun r hr holds => ?_, found.imp id fun ⟨below, holds⟩ => ⟨below.trans k.lt_succ_self, holds⟩⟩
      rcases Nat.lt_succ_iff_lt_or_eq.mp hr with below | rfl
      · exact highest r below holds
      · exact absurd holds last

/-- The candidate is the highest rung at or below the base, else rung 0 (R139 step 1). -/
theorem Stream.candidate_highest (st : Stream) :
    (∀ r, r < st.ladder.length → st.rate r ≤ st.base → r ≤ st.candidate) ∧
      (st.candidate = 0 ∨ (st.candidate < st.ladder.length ∧ st.rate st.candidate ≤ st.base)) :=
  foldl_range_latest (fun r => st.rate r ≤ st.base) st.ladder.length

theorem Zone.holdsRung_iff (z : Zone) : z.holdsRung = true ↔ z = .crowded ∨ z = .jammed := by
  cases z <;> simp [Zone.holdsRung]

theorem State.normalDecision_of_rescue {s : State} {n : Slot} (h : (s.stream n).rescuePending = true) :
    s.normalDecision n = (.refetch, 0) := if_pos h

theorem State.normalDecision_of_no_rescue {s : State} {n : Slot} (h : (s.stream n).rescuePending = false) :
    s.normalDecision n = (.normal, (s.stream n).normalRung s.cls.zone) := if_neg (by rw [h]; exact Bool.false_ne_true)

/-- The limits of the normal decision, the zone's told by its name (R139 steps 2 to 5). -/
theorem Stream.normalRung_eq (st : Stream) (z : Zone) :
    st.normalRung z =
      let stepped := min st.candidate (st.current + 1)
      let zoned := if z = .crowded ∨ z = .jammed then min stepped st.current else stepped
      let limited := min zoned st.ceiling
      if st.state = .starting ∧ st.startLimit = true then min limited st.cfg.startRung else limited := by
  simp only [Stream.normalRung, Zone.holdsRung_iff]

/-- The decision taken, as one change of the stream and the raise of RUNG (R137, R140). -/
theorem State.takeDecision_eq (s : State) (n : Slot) (r : Nat) :
    s.takeDecision n r =
      (s.setStream n { s.stream n with current := r, rescuePending := false }).raiseIf ((s.stream n).current != r) n .rung :=
  rfl

end Sys2Proof.Machine

open Sys2Proof Sys2Proof.Machine

/-- Settles O48: rescue pending decides the kind; the candidate is the rung that the limits then lower. -/
theorem decisionLimitsTheRung : Obligations.DecisionLimitsTheRung := by
  intro s n st base rate
  refine ⟨State.normalDecision_of_rescue, fun calm => ⟨st.candidate, ?_⟩, s.takeDecision_eq n⟩
  obtain ⟨highest, found⟩ := st.candidate_highest
  refine ⟨highest, found, ?_⟩
  rw [State.normalDecision_of_no_rescue calm, Stream.normalRung_eq]

end

section
namespace Sys2Proof.Machine

/-! ## Ceiling falls and the outcomes of a probe (O49) -/

variable {s : State} {n : Slot}

/-- Without a ladder there is no ceiling to fall (R142). -/
theorem State.fall_of_no_ladder (h : (s.stream n).ladder = []) (named : Nat) : s.fall n named = s := by
  have bare : ¬(s.stream n).hasLadder = true := fun held => (Stream.hasLadder_iff _).mp held h
  rw [State.fall, State.modStream_eq, if_neg bare, State.setStream_stream_self]

/-- A conditional raise and a change of other fields of the stream than flags and mask come in either order. -/
theorem State.raiseIf_modStream (s : State) (n : Slot) (c : Bool) (f : StreamFlag) {g : Stream → Stream}
    (flags : ∀ st, (g st).flags = st.flags) (mask : ∀ st, (g st).mask = st.mask)
    (apart : ∀ st fl, g { st with flags := fl } = { g st with flags := fl }) :
    (s.modStream n g).raiseIf c n f = (s.raiseIf c n f).modStream n g := by
  cases c with
  | true => exact s.raise_modStream n f flags mask apart
  | false => rfl

/-- A probe failure of a stream with a ladder: the fall to the current rung with probe live no, then PROBE_FAIL (R153). -/
theorem State.probeFailure_of_ladder (h : (s.stream n).ladder ≠ []) :
    s.probeFailure n =
      (s.setStream n { s.stream n with
        ceiling := min (s.stream n).ceiling (s.stream n).current, probePending := false, probeLive := false,
        stepTimer := s.restartedStep (s.stream n) (min (s.stream n).ceiling (s.stream n).current) }).raise n .probeFail := by
  rw [State.probeFailure, ← State.raise_modStream _ n .probeFail (g := fun st => { st with probeLive := false })
    (fun _ => rfl) (fun _ => rfl) (fun _ _ => rfl), State.fall_of_ladder h, State.modStream_modStream, State.modStream_eq]

/-- The end of a probe success (R152): probe live no, the step timer stopped where C has reached the top rung. -/
def Stream.probeLanded (st : Stream) : Stream :=
  { st with probeLive := false, stepTimer := if st.top ≤ st.ceiling then none else st.stepTimer }

/-- A probe success: C and the current rung raised and the step timer stopped at the top rung, then RUNG and PROBE_DONE (R152). -/
theorem State.probeSuccess_eq (s : State) (n : Slot) (r : Nat) :
    s.probeSuccess n r =
      ((s.setStream n { s.stream n with
        ceiling := max (s.stream n).ceiling r, current := r, probeLive := false,
        stepTimer := if (s.stream n).top ≤ max (s.stream n).ceiling r then none else (s.stream n).stepTimer }).raiseIf
          ((s.stream n).current != r) n .rung).raise n .probeDone := by
  change (((s.modStream n fun st => { st with ceiling := max st.ceiling r, current := r }).raiseIf
    ((s.stream n).current != r) n .rung).raise n .probeDone).modStream n Stream.probeLanded = _
  rw [← State.raise_modStream _ n .probeDone (g := Stream.probeLanded) (fun _ => rfl) (fun _ => rfl) (fun _ _ => rfl),
    ← State.raiseIf_modStream _ n _ .rung (g := Stream.probeLanded) (fun _ => rfl) (fun _ => rfl) (fun _ _ => rfl),
    State.modStream_modStream]
  rfl

end Sys2Proof.Machine

open Sys2Proof Sys2Proof.Machine

/-- Settles O49: each operation by its equation, one change of the stream and then the flags it raises. -/
theorem fallsAndProbeOutcomesMoveTheCeiling : Obligations.FallsAndProbeOutcomesMoveTheCeiling := by
  intro s n v st c timer
  refine ⟨fun bare => State.fall_of_no_ladder bare v, fun held => State.fall_of_ladder held v,
    fun held => State.probeFailure_of_ladder held, s.probeSuccess_eq n v⟩

end

section
namespace Sys2Proof.Machine

/-! ## The rung selector's bounds (O58)

Few operations write a ceiling, a current rung, a step timer or a record's rung. All others leave them alone, and are told so
here once; the few are then taken one by one. -/

/-- What the selector's bounds read of a stream. -/
def Stream.selector (st : Stream) : List Rung × Nat × Nat × Option Nat := (st.ladder, st.ceiling, st.current, st.stepTimer)

/-- The zone and every stream's ladder, ceiling, current rung and step timer are as before, and each live record has slot and
rung of one that was live: all that `State.rungsSound` speaks of. -/
structure State.SameRungs (s t : State) : Prop where
  zone : t.cls.zone = s.cls.zone
  selector : ∀ m, (t.stream m).selector = (s.stream m).selector
  records : ∀ r ∈ t.pool.records, ∃ x ∈ s.pool.records, x.slot = r.slot ∧ x.rung = r.rung

variable {s t u : State} (n : Slot)

theorem State.SameRungs.of_pool (zone : t.cls.zone = s.cls.zone) (pool : t.pool = s.pool)
    (selector : ∀ m, (t.stream m).selector = (s.stream m).selector) : s.SameRungs t :=
  ⟨zone, selector, fun r hr => ⟨r, pool ▸ hr, rfl, rfl⟩⟩

theorem State.SameRungs.of_streams (zone : t.cls.zone = s.cls.zone) (pool : t.pool = s.pool)
    (streams : ∀ m, t.stream m = s.stream m) : s.SameRungs t :=
  .of_pool zone pool fun m => congrArg Stream.selector (streams m)

theorem State.SameRungs.refl (s : State) : s.SameRungs s := .of_streams rfl rfl fun _ => rfl

theorem State.SameRungs.trans (a : s.SameRungs t) (b : t.SameRungs u) : s.SameRungs u where
  zone := b.zone.trans a.zone
  selector m := (b.selector m).trans (a.selector m)
  records r hr := by
    obtain ⟨x, hx, slot, rung⟩ := b.records r hr
    obtain ⟨y, hy, slot', rung'⟩ := a.records x hx
    exact ⟨y, hy, slot'.trans slot, rung'.trans rung⟩

theorem State.SameBlocks.sameRungs (b : s.SameBlocks t) (selector : ∀ m, (t.stream m).selector = (s.stream m).selector) :
    s.SameRungs t := .of_pool (congrArg Classifier.zone b.cls) b.pool selector

theorem State.SameElsewhere.sameRungs {n : Slot} (e : s.SameElsewhere n t) (b : s.SameBlocks t)
    (selector : (t.stream n).selector = (s.stream n).selector) : s.SameRungs t :=
  b.sameRungs fun m => by
    by_cases same : m = n
    · exact same ▸ selector
    · rw [e m same]

/-! ### Streams, flags and the queue -/

variable (s)

theorem State.modStream_sameRungs {f : Stream → Stream} (h : ∀ st, (f st).selector = st.selector) :
    s.SameRungs (s.modStream n f) :=
  (s.modStream_elsewhere n f).sameRungs (s.modStream_blocks n f) (by rw [State.stream_modStream_same]; exact h _)

theorem State.forSlots_sameRungs {act : Slot → State → State} (h : ∀ m u, State.SameRungs u (act m u)) :
    s.SameRungs (s.forSlots act) :=
  State.forSlots_rel (R := State.SameRungs) (fun a b => a.trans b) h s

theorem State.setQueue_sameRungs (q : List TxFrame) : s.SameRungs (s.setQueue q) := .of_streams rfl rfl fun _ => rfl

theorem State.pushTx_sameRungs (f : TxFrame) : s.SameRungs (s.pushTx f) := s.setQueue_sameRungs _

theorem State.reply_sameRungs (k : Byte) (e : Status) (fs : List Byte) : s.SameRungs (s.reply k e fs) := s.setQueue_sameRungs _

theorem State.withEst_sameRungs (e : Estimator) : s.SameRungs { s with est := e } := .of_streams rfl rfl fun _ => rfl

theorem State.withArb_sameRungs (a : Arbiter) : s.SameRungs { s with arb := a } := .of_streams rfl rfl fun _ => rfl

theorem State.withDev_sameRungs (d : DeviceFlags) : s.SameRungs { s with dev := d } := .of_streams rfl rfl fun _ => rfl

theorem State.reach_sameRungs (e : Nat) : s.SameRungs (s.reach e) :=
  .of_streams (congrArg Classifier.zone (s.reach_cls e)) (s.reach_pool e) fun m => s.reach_stream m e

theorem State.noteIfTurned_sameRungs (b : State) : s.SameRungs (s.noteIfTurned b) :=
  (s.noteIfTurned_blocks b).sameRungs fun m => by rw [State.noteIfTurned_stream]

theorem State.raise_sameRungs (f : StreamFlag) : s.SameRungs (s.raise n f) :=
  (s.raise_elsewhere n f).sameRungs (s.raise_blocks n f) (by rw [State.raise_stream, if_pos rfl]; rfl)

theorem State.raiseIf_sameRungs (c : Bool) (f : StreamFlag) : s.SameRungs (s.raiseIf c n f) := by
  cases c with
  | true => exact s.raise_sameRungs n f
  | false => exact .refl s

theorem State.raiseDeviceIf_sameRungs (c : Bool) (f : DeviceFlag) : s.SameRungs (s.raiseDeviceIf c f) := by
  obtain ⟨q, raised⟩ := s.raiseDeviceIf_eq c f
  rw [raised]; exact .of_streams rfl rfl fun _ => rfl

/-! ### The playout operations -/

theorem State.reevaluate_sameRungs : s.SameRungs (s.reevaluate n) :=
  (s.reevaluate_elsewhere n).sameRungs (s.reevaluate_blocks n) (by rw [State.reevaluate_stream]; rfl)

theorem State.enterPlaying_sameRungs (r : GateReason) : s.SameRungs (s.enterPlaying n r) :=
  (s.enterPlaying_elsewhere n r).sameRungs (s.enterPlaying_blocks n r) (by rw [State.enterPlaying_stream]; rfl)

theorem State.leavePlaying_sameRungs (r : GateReason) : s.SameRungs (s.leavePlaying n r) :=
  (s.leavePlaying_elsewhere n r).sameRungs (s.leavePlaying_blocks n r) (by rw [State.leavePlaying_stream]; split <;> rfl)

theorem State.readinessTest_sameRungs : s.SameRungs (s.readinessTest n) := by
  unfold State.readinessTest; split
  · exact s.enterPlaying_sameRungs n _
  · exact .refl s

theorem State.windowChanged_sameRungs : s.SameRungs (s.windowChanged n) :=
  (s.reevaluate_sameRungs n).trans (State.readinessTest_sameRungs _ n)

theorem State.contiguousMove_sameRungs : s.SameRungs (s.contiguousMove n) :=
  (s.modStream_sameRungs n fun _ => by rfl).trans (State.windowChanged_sameRungs _ n)

theorem State.returnEntry_sameRungs (seg : Nat) : s.SameRungs (s.returnEntry n seg) := s.modStream_sameRungs n fun _ => by rfl

theorem State.landEntry_sameRungs (seg rung bytes : Nat) : s.SameRungs (s.landEntry n seg rung bytes) :=
  s.modStream_sameRungs n fun _ => by rfl

theorem State.failEntry_sameRungs (seg : Nat) : s.SameRungs (s.failEntry n seg) := by
  unfold State.failEntry; split
  · exact .refl s
  · split
    · exact (s.modStream_sameRungs n fun _ => by rfl).trans (State.windowChanged_sameRungs _ n)
    · exact (((s.modStream_sameRungs n fun _ => by rfl).trans (State.raise_sameRungs _ n _)).trans
        (State.modStream_sameRungs _ n fun _ => by rfl)).trans (State.contiguousMove_sameRungs _ n)

theorem State.enterStarting_sameRungs : s.SameRungs (s.enterStarting n) := s.modStream_sameRungs n fun _ => by rfl

theorem State.reallocateIf_sameRungs (c : Bool) : s.SameRungs (s.reallocateIf c) :=
  (s.reallocateIf_blocks c).sameRungs fun m => by rw [State.reallocateIf_stream]; rfl

theorem State.recomputeUsable_sameRungs : s.SameRungs s.recomputeUsable :=
  (s.withEst_sameRungs _).trans (State.reallocateIf_sameRungs _ true)

theorem State.pauseAct_sameRungs : s.SameRungs (s.pauseAct n) := by
  unfold State.pauseAct; split
  · exact .refl s
  · exact (s.leavePlaying_sameRungs n _).trans (State.modStream_sameRungs _ n fun _ => by rfl)

theorem State.playAct_sameRungs : s.SameRungs (s.playAct n) := by
  unfold State.playAct; split
  · exact (((s.modStream_sameRungs n fun _ => by rfl).trans (State.enterStarting_sameRungs _ n)).trans
      (State.reallocateIf_sameRungs _ true)).trans (State.readinessTest_sameRungs _ n)
  · split
    · exact (s.enterStarting_sameRungs n).trans (State.readinessTest_sameRungs _ n)
    · exact s.enterPlaying_sameRungs n _
  all_goals exact .refl s

theorem State.dryTest_sameRungs : s.SameRungs (s.dryTest n) := by
  unfold State.dryTest; split
  · exact (s.raise_sameRungs n _).trans (State.modStream_sameRungs _ n fun _ => by rfl)
  · exact .refl s

/-! ### Records that leave or change their marks -/

theorem State.freeRecord_sameRungs (tag : Nat) : s.SameRungs (s.freeRecord tag) :=
  ⟨rfl, fun _ => rfl, fun r hr => ⟨r, List.mem_of_mem_filter hr, rfl, rfl⟩⟩

theorem State.changeRecord_sameRungs (tag : Nat) {g : Record → Record}
    (same : ∀ r, (g r).slot = r.slot ∧ (g r).rung = r.rung) : s.SameRungs (s.changeRecord tag g) := by
  refine ⟨rfl, fun _ => rfl, fun r hr => ?_⟩
  obtain ⟨x, hx, rfl⟩ := List.mem_map.mp hr
  refine ⟨x, hx, ?_⟩
  split
  · exact ⟨(same x).1.symm, (same x).2.symm⟩
  · exact ⟨rfl, rfl⟩

theorem State.dropRecord_sameRungs (r : Record) (d : DropReason) : s.SameRungs (s.dropRecord r d) where
  zone := congrArg Classifier.zone (s.dropRecord_shell r d).cls
  selector m := by rw [State.dropRecord_stream]; split <;> rfl
  records x hx := by
    rw [State.dropRecord_records] at hx
    exact ⟨x, List.mem_of_mem_filter hx, rfl, rfl⟩

theorem State.dropToWaiting_sameRungs (r : Record) (d : DropReason) : s.SameRungs (s.dropToWaiting r d) :=
  ((s.dropRecord_sameRungs r d).trans (State.returnEntry_sameRungs _ _ _)).trans (State.windowChanged_sameRungs _ _)

theorem State.dropFor_sameRungs (d : DropReason) (r : Option Record) : s.SameRungs (s.dropFor n d r) := by
  cases r with
  | none => exact .refl s
  | some r => exact (s.dropRecord_sameRungs r d).trans (State.returnEntry_sameRungs _ n _)

theorem State.emptyStream_sameRungs (d : DropReason) (g : GateReason) : s.SameRungs (s.emptyStream n d g) := by
  have dropped : s.SameRungs (s.dropStream n d) := (s.dropFor_sameRungs n d _).trans (State.dropFor_sameRungs _ n d _)
  exact (((dropped.trans (State.modStream_sameRungs _ n fun _ => by rfl)).trans (State.reevaluate_sameRungs _ n)).trans
    (State.modStream_sameRungs _ n fun _ => by rfl)).trans (State.leavePlaying_sameRungs _ n g)

/-- SEEK keeps the ladder, the ceiling and the current rung (R136). -/
theorem State.seekAct_sameRungs : s.SameRungs (s.seekAct n) :=
  ((((s.emptyStream_sameRungs n .seek .seek).trans (State.modStream_sameRungs _ n fun _ => by rfl)).trans
    (State.enterStarting_sameRungs _ n)).trans (State.reallocateIf_sameRungs _ _)).trans (State.readinessTest_sameRungs _ n)

/-- So does STOP (R136). -/
theorem State.stopAct_sameRungs : s.SameRungs (s.stopAct n) :=
  ((s.emptyStream_sameRungs n .stop .stop).trans (State.modStream_sameRungs _ n fun _ => by rfl)).trans
    (State.reallocateIf_sameRungs _ _)

theorem State.rescue_sameRungs : s.SameRungs (s.rescue n) := by
  unfold State.rescue; split
  · split
    · exact (s.dropToWaiting_sameRungs _ _).trans (State.modStream_sameRungs _ n fun _ => by rfl)
    · exact .refl s
  · exact .refl s

theorem State.enterRebuffering_sameRungs : s.SameRungs (s.enterRebuffering n) :=
  ((s.leavePlaying_sameRungs n _).trans (State.modStream_sameRungs _ n fun _ => by rfl)).trans (State.raise_sameRungs _ n _)

theorem State.endOfPresentation_sameRungs : s.SameRungs (s.endOfPresentation n) :=
  (((s.leavePlaying_sameRungs n _).trans (State.modStream_sameRungs _ n fun _ => by rfl)).trans
    (State.raise_sameRungs _ n _)).trans (State.reallocateIf_sameRungs _ true)

/-! ### The line, the link and the settings -/

theorem State.receiverTo_sameRungs (r : Receiver) : s.SameRungs (s.receiverTo r) := .of_streams rfl rfl fun _ => rfl

theorem State.receiveFault_sameRungs : s.SameRungs s.receiveFault :=
  (s.receiverTo_sameRungs _).trans (State.raiseDeviceIf_sameRungs _ true _)

theorem State.frameComplete_sameRungs (f : Frame) : s.SameRungs (s.frameComplete f) := by
  unfold State.frameComplete; split
  · exact .of_streams rfl rfl fun _ => rfl
  · exact s.raiseDeviceIf_sameRungs true _

theorem State.takeByte_sameRungs (b : Byte) : s.SameRungs (s.takeByte b) := by
  unfold State.takeByte; split
  · split
    · exact s.receiverTo_sameRungs _
    · exact .refl s
  · split
    · exact s.receiverTo_sameRungs _
    · exact s.receiveFault_sameRungs
  · split <;> exact s.receiverTo_sameRungs _
  · split
    · exact s.receiveFault_sameRungs
    · split
      · exact (s.receiverTo_sameRungs _).trans (State.frameComplete_sameRungs _ _)
      · exact s.receiveFault_sameRungs

theorem State.receiveByte_sameRungs (b : Byte) (low : Bool) : s.SameRungs (s.receiveByte b low) := by
  unfold State.receiveByte; split
  · split
    · exact .refl s
    · exact s.receiveFault_sameRungs
  · exact s.takeByte_sameRungs b

theorem State.offer_sameRungs (f : Frame) : s.SameRungs (s.offer f) :=
  .of_streams (s.offer_sameCapacity f).zone (s.offer_quiet f).pool (s.offer_stream f)

theorem State.popFrame_sameRungs : s.SameRungs s.popFrame := .of_streams rfl rfl fun _ => rfl

theorem State.idle_sameRungs : s.SameRungs s.idle :=
  .of_streams s.idle_sameCapacity.zone s.idle_quiet.pool s.idle_stream

theorem State.announce_sameRungs (f : TxFrame) : s.SameRungs (s.announce f) := by
  cases f with
  | fetch d => exact s.changeRecord_sameRungs d.tag fun _ => ⟨rfl, rfl⟩
  | hello _ | drop _ _ | gate _ _ _ | note | reply _ _ => exact .refl s

theorem State.countBytes_sameRungs (k : Nat) : s.SameRungs (s.countBytes k) := s.withEst_sameRungs _

theorem State.setMasks_sameRungs (r : MaskReq) : s.SameRungs (s.setMasks r) :=
  (s.withDev_sameRungs { s.dev with mask := r.device }).trans
    (State.forSlots_sameRungs _ fun m u => u.modStream_sameRungs m fun _ => by rfl)

theorem State.clearFlags_sameRungs : s.SameRungs s.clearFlags :=
  (s.withDev_sameRungs { s.dev with flags := 0 }).trans
    (State.forSlots_sameRungs _ fun m u => u.modStream_sameRungs m fun _ => by rfl)

theorem State.applyLimits_sameRungs (r : LimitsReq) : s.SameRungs (s.applyLimits r) := by
  have loaded : s.SameRungs ((s.writeLimits r).loadStart r.startEstimate) := by
    unfold State.loadStart; split <;> exact .of_streams rfl rfl fun _ => rfl
  unfold State.applyLimits; dsimp only; split
  · exact loaded.trans (State.recomputeUsable_sameRungs _)
  · split
    · exact loaded.trans (State.reallocateIf_sameRungs _ true)
    · exact loaded

theorem State.sampleAct_sameRungs : s.SameRungs s.sampleAct := by
  unfold State.sampleAct; dsimp only; split
  · exact s.withEst_sameRungs _
  · exact (s.withEst_sameRungs _).trans (State.recomputeUsable_sameRungs _)

theorem State.linkUsable_sameRungs (b : State) : s.SameRungs (s.linkUsable b) := by
  unfold State.linkUsable; split
  · exact .refl s
  · exact s.recomputeUsable_sameRungs

theorem State.sagStep_sameRungs (rtt : Nat) : s.SameRungs (s.sagStep rtt) :=
  (s.withEst_sameRungs { s.est with sagTrim := s.est.trimAfter rtt }).trans (State.raiseDeviceIf_sameRungs _ _ _)

end Sys2Proof.Machine
end

section
namespace Sys2Proof.Machine

/-! ### The bounds, stream by stream (R135, R144) -/

/-- Ceiling and current rung lie within a ladder that is held; without one the step timer is stopped (R135). -/
def Stream.onLadder (st : Stream) : Prop :=
  (st.hasLadder = true → st.ceiling ≤ st.top ∧ st.current ≤ st.top) ∧ (st.hasLadder = false → st.stepTimer = none)

/-- With a ladder the step timer runs exactly where the zone `z` and the ceiling have it run (R144). -/
def Stream.stepTimed (st : Stream) (z : Zone) : Prop :=
  st.hasLadder = true → (st.stepTimer.isSome = true ↔ st.ceiling < st.top ∧ z ≠ .jammed)

/-- The bounds without the timing of the step timers: what a change of zone leaves until the selector is told of it (R146). -/
def State.rungsBounded (s : State) : Prop :=
  (∀ n, (s.stream n).onLadder) ∧ ∀ r ∈ s.pool.records, r.rung ≤ (s.stream r.slot).top

variable {s t u : State} {n : Slot} {a b st : Stream} {z was : Zone}

theorem State.rungsSound_iff : s.rungsSound ↔ s.rungsBounded ∧ ∀ n, (s.stream n).stepTimed s.cls.zone :=
  ⟨fun ⟨held, bare, records⟩ =>
    ⟨⟨fun n => ⟨fun ladder => ⟨(held n ladder).1, (held n ladder).2.1⟩, bare n⟩, records⟩,
      fun n ladder => (held n ladder).2.2⟩,
   fun ⟨⟨on, records⟩, timed⟩ =>
    ⟨fun n ladder => ⟨((on n).1 ladder).1, ((on n).1 ladder).2, timed n ladder⟩, fun n => (on n).2, records⟩⟩

theorem State.rungsSound.bounded (h : s.rungsSound) : s.rungsBounded := (State.rungsSound_iff.mp h).1

theorem State.rungsSound.timed (h : s.rungsSound) (n : Slot) : (s.stream n).stepTimed s.cls.zone :=
  (State.rungsSound_iff.mp h).2 n

theorem Stream.top_of_ladder (h : b.ladder = a.ladder) : b.top = a.top := by unfold Stream.top; rw [h]

theorem Stream.hasLadder_of_ladder (h : b.ladder = a.ladder) : b.hasLadder = a.hasLadder := by unfold Stream.hasLadder; rw [h]

theorem Stream.fields_of_selector (h : b.selector = a.selector) :
    b.ladder = a.ladder ∧ b.ceiling = a.ceiling ∧ b.current = a.current ∧ b.stepTimer = a.stepTimer := by
  simpa only [Stream.selector, Prod.mk.injEq] using h

theorem Stream.onLadder.of_selector (h : a.onLadder) (e : b.selector = a.selector) : b.onLadder := by
  obtain ⟨ladder, ceiling, current, timer⟩ := Stream.fields_of_selector e
  unfold Stream.onLadder
  rwa [Stream.hasLadder_of_ladder ladder, Stream.top_of_ladder ladder, ceiling, current, timer]

theorem Stream.stepTimed.of_selector (h : a.stepTimed z) (e : b.selector = a.selector) : b.stepTimed z := by
  obtain ⟨ladder, ceiling, -, timer⟩ := Stream.fields_of_selector e
  unfold Stream.stepTimed
  rwa [Stream.hasLadder_of_ladder ladder, Stream.top_of_ladder ladder, ceiling, timer]

/-- Of the zone only JAMMED matters to the step timer. -/
theorem Stream.stepTimed.of_zone (h : st.stepTimed was) (same : z = .jammed ↔ was = .jammed) : st.stepTimed z := by
  unfold Stream.stepTimed at h ⊢
  rwa [ne_eq, same]

theorem State.SameRungs.top (e : s.SameRungs t) (m : Slot) : (t.stream m).top = (s.stream m).top :=
  Stream.top_of_ladder (Stream.fields_of_selector (e.selector m)).1

theorem State.rungsBounded.congr (h : s.rungsBounded) (e : s.SameRungs t) : t.rungsBounded := by
  refine ⟨fun m => (h.1 m).of_selector (e.selector m), fun r hr => ?_⟩
  obtain ⟨x, hx, slot, rung⟩ := e.records r hr
  rw [e.top, ← rung, ← slot]
  exact h.2 x hx

theorem State.rungsSound.congr (h : s.rungsSound) (e : s.SameRungs t) : t.rungsSound :=
  State.rungsSound_iff.mpr ⟨h.bounded.congr e, fun m => e.zone ▸ (h.timed m).of_selector (e.selector m)⟩

/-! ### One stream rewritten -/

/-- `b` holds the ladder of `a`, lies on it, and has its step timer as the zone `z` has it. -/
structure Stream.TimedOn (z : Zone) (a b : Stream) : Prop where
  ladder : b.ladder = a.ladder
  onLadder : b.onLadder
  timed : b.stepTimed z

theorem State.rungsBounded.setStream (h : s.rungsBounded) (ladder : st.ladder = (s.stream n).ladder) (on : st.onLadder) :
    (s.setStream n st).rungsBounded := by
  have top : ∀ m, ((s.setStream n st).stream m).top = (s.stream m).top := fun m => by
    rw [State.stream_setStream]; split
    · rename_i same; exact same ▸ Stream.top_of_ladder ladder
    · rfl
  refine ⟨fun m => ?_, fun r hr => ?_⟩
  · rw [State.stream_setStream]; split
    · exact on
    · exact h.1 m
  · rw [top]; exact h.2 r hr

theorem State.rungsSound.setStream (h : s.rungsSound) (new : (s.stream n).TimedOn s.cls.zone st) :
    (s.setStream n st).rungsSound := by
  refine State.rungsSound_iff.mpr ⟨h.bounded.setStream new.ladder new.onLadder, fun m => ?_⟩
  rw [State.stream_setStream]; split
  · exact new.timed
  · exact h.timed m

/-- A rewrite of every stream that puts each step timer right, whatever the timers were before. -/
theorem State.rungsBounded.forSlots (h : s.rungsBounded) {f : Slot → State → Stream}
    (new : ∀ n (u : State), u.cls = s.cls → u.rungsBounded → (u.stream n).TimedOn s.cls.zone (f n u)) :
    (s.forSlots fun n u => u.setStream n (f n u)).rungsSound := by
  have bounded : ∀ n (u : State), u.cls = s.cls ∧ u.rungsBounded →
      (u.setStream n (f n u)).cls = s.cls ∧ (u.setStream n (f n u)).rungsBounded := fun n u ⟨cls, hu⟩ =>
    ⟨cls, hu.setStream (new n u cls hu).ladder (new n u cls hu).onLadder⟩
  have own : ∀ n (u : State), u.cls = s.cls ∧ u.rungsBounded → ((u.setStream n (f n u)).stream n).stepTimed s.cls.zone :=
    fun n u ⟨cls, hu⟩ => by rw [State.stream_setStream_same]; exact (new n u cls hu).timed
  have other : ∀ n m (u : State), n ≠ m → (u.stream m).stepTimed s.cls.zone →
      ((u.setStream n (f n u)).stream m).stepTimed s.cls.zone := fun n m u apart hm => by
    rw [State.stream_setStream, if_neg apart]; exact hm
  have h0 := bounded 0 s ⟨rfl, h⟩
  have h1 := bounded 1 _ h0
  have h2 := bounded 2 _ h1
  refine State.rungsSound_iff.mpr ⟨(bounded 3 _ h2).2, fun m => ?_⟩
  fin_cases m
  · exact other 3 0 _ (by decide) (other 2 0 _ (by decide) (other 1 0 _ (by decide) (own 0 s ⟨rfl, h⟩)))
  · exact other 3 1 _ (by decide) (other 2 1 _ (by decide) (own 1 _ h0))
  · exact other 3 2 _ (by decide) (own 2 _ h1)
  · exact own 3 _ h2

/-- A step timer restarted from zero runs exactly where the ceiling and the zone have it run (R142, R144). -/
theorem State.isSome_restartedStep (s : State) (st : Stream) (c : Nat) :
    (s.restartedStep st c).isSome = true ↔ c < st.top ∧ s.cls.zone ≠ .jammed := by
  unfold State.restartedStep; split <;> simp_all

theorem State.restartedStep_of_bare {s : State} (bare : st.hasLadder = false) (c : Nat) : s.restartedStep st c = none := by
  have empty : st.ladder = [] := by simpa [Stream.hasLadder] using bare
  simp [State.restartedStep, Stream.top, empty]

/-- A stream whose ceiling and step timer are written together (R142, R145, R146). -/
theorem Stream.onLadder.restarted (h : st.onLadder) (s : State) (c : Nat) (fits : st.hasLadder = true → c ≤ st.top) :
    st.TimedOn s.cls.zone { st with ceiling := c, stepTimer := s.restartedStep st c } :=
  ⟨rfl, ⟨fun held => ⟨fits held, (h.1 held).2⟩, fun bare => State.restartedStep_of_bare bare c⟩,
    fun _ => s.isSome_restartedStep st c⟩

/-- What a fall makes of a stream (R142). -/
theorem Stream.onLadder.fallen (h : st.onLadder) (s : State) (named : Nat) :
    st.TimedOn s.cls.zone
      (if st.hasLadder then { st with
        ceiling := min st.ceiling named, probePending := false,
        stepTimer := s.restartedStep st (min st.ceiling named) } else st) := by
  by_cases held : st.hasLadder = true
  · rw [if_pos held]
    obtain ⟨ladder, on, timed⟩ := h.restarted s (min st.ceiling named) fun held => (Nat.min_le_left _ _).trans (h.1 held).1
    exact ⟨ladder, on, timed⟩
  · rw [if_neg held]
    exact ⟨rfl, h, fun ladder => absurd ladder held⟩

/-! ### Falls and the outcomes of a probe (R142, R152, R153) -/

theorem State.rungsSound.fall (h : s.rungsSound) (n : Slot) (named : Nat) : (s.fall n named).rungsSound :=
  h.setStream ((h.bounded.1 n).fallen s named)

/-- Falls of every stream put the step timers right (R117, R118, R142). -/
theorem State.rungsBounded.fallAll (h : s.rungsBounded) (named : Slot → State → Nat) :
    (s.forSlots fun n u => u.fall n (named n u)).rungsSound :=
  h.forSlots fun n u cls hu => cls ▸ (hu.1 n).fallen u (named n u)

theorem State.rungsSound.probeFailure (h : s.rungsSound) (n : Slot) : (s.probeFailure n).rungsSound :=
  ((h.fall n _).congr (State.raise_sameRungs _ n _)).congr (State.modStream_sameRungs _ n fun _ => by rfl)

theorem State.rungsSound.failProbe (h : s.rungsSound) (r : Record) (d : DropReason) : (s.failProbe r d).rungsSound :=
  (h.congr (s.dropToWaiting_sameRungs r d)).probeFailure r.slot

/-- A probe that succeeds on the ladder (R152): a ceiling below the top rung was below it before, and the timer runs on. -/
theorem State.rungsSound.probeSuccess (h : s.rungsSound) {r : Nat} (fits : r ≤ (s.stream n).top) :
    (s.probeSuccess n r).rungsSound := by
  have landed : (s.stream n).TimedOn s.cls.zone { s.stream n with
      ceiling := max (s.stream n).ceiling r, current := r, probeLive := false,
      stepTimer := if (s.stream n).top ≤ max (s.stream n).ceiling r then none else (s.stream n).stepTimer } := by
    refine ⟨rfl, ⟨fun held => ⟨max_le ((h.bounded.1 n).1 held).1 fits, fits⟩, fun bare => ?_⟩, fun held => ?_⟩
    · simp only [(h.bounded.1 n).2 bare, ite_self]
    · by_cases reached : (s.stream n).top ≤ max (s.stream n).ceiling r
      · simp only [if_pos reached]
        exact ⟨nofun, fun below => absurd below.1 (not_lt.mpr reached)⟩
      · simp only [if_neg reached]
        have below := not_le.mp reached
        exact (h.timed n held).trans
          ⟨fun runs => ⟨below, runs.2⟩, fun runs => ⟨(le_max_left _ _).trans_lt below, runs.2⟩⟩
  rw [State.probeSuccess_eq]
  exact ((h.setStream landed).congr (State.raiseIf_sameRungs _ n _ _)).congr (State.raise_sameRungs _ n _)

/-! ### Grants (R129, R138 to R140, R151) -/

/-- No decision leaves the ladder, whatever its limits (R139). -/
theorem Stream.normalRung_le_top (st : Stream) (z : Zone) : st.normalRung z ≤ st.top := by
  have candidate : st.candidate ≤ st.top := by
    rcases st.candidate_highest.2 with zero | ⟨below, -⟩
    · rw [zero]; exact Nat.zero_le _
    · exact Nat.le_sub_one_of_lt below
  rw [Stream.normalRung_eq]
  dsimp only
  split <;> split <;> omega

theorem State.normalDecision_le_top (s : State) (n : Slot) : (s.normalDecision n).2 ≤ (s.stream n).top := by
  unfold State.normalDecision; split
  · exact Nat.zero_le _
  · exact Stream.normalRung_le_top _ _

theorem State.rungsSound.takeDecision (h : s.rungsSound) {r : Nat} (fits : r ≤ (s.stream n).top) :
    (s.takeDecision n r).rungsSound := by
  have decided : (s.stream n).TimedOn s.cls.zone { s.stream n with current := r, rescuePending := false } :=
    ⟨rfl, ⟨fun held => ⟨((h.bounded.1 n).1 held).1, fits⟩, (h.bounded.1 n).2⟩, h.timed n⟩
  rw [State.takeDecision_eq]
  exact (h.setStream decided).congr (State.raiseIf_sameRungs _ n _ _)

/-- A record made at a rung of its stream's ladder (R48, R135). -/
theorem State.rungsSound.makeRecord (h : s.rungsSound) (e : WindowEntry) (k : FetchKind) {rung : Nat}
    (fits : rung ≤ (s.stream n).top) : (s.makeRecord n e k rung).rungsSound := by
  have same : ∀ m, ((s.makeRecord n e k rung).stream m).selector = (s.stream m).selector := fun m => by
    rw [State.makeRecord_stream]; split <;> rfl
  have zone : (s.makeRecord n e k rung).cls.zone = s.cls.zone := rfl
  refine State.rungsSound_iff.mpr ⟨⟨fun m => (h.bounded.1 m).of_selector (same m), fun r hr => ?_⟩, fun m =>
    zone ▸ (h.timed m).of_selector (same m)⟩
  rw [Stream.top_of_ladder (Stream.fields_of_selector (same r.slot)).1]
  rcases List.mem_append.mp (show r ∈ s.pool.records ++ [s.newRecord n e k rung] from hr) with old | new
  · exact h.bounded.2 r old
  · rw [List.mem_singleton.mp new]; exact fits

theorem State.rungsSound.grantNormal (h : s.rungsSound) (n : Slot) : (s.grantNormal n).rungsSound := by
  unfold State.grantNormal; split
  · exact h
  · have fits := s.normalDecision_le_top n
    have ladder : ((s.takeDecision n (s.normalDecision n).2).stream n).top = (s.stream n).top :=
      Stream.top_of_ladder (s.takeDecision_contents n _ n).ladder
    exact (((h.takeDecision fits).makeRecord _ _ (ladder ▸ fits)).congr (State.withArb_sameRungs _ _)).congr
      (State.windowChanged_sameRungs _ n)

/-- The probe rung of an eligible stream is on its ladder (R127, R151). -/
theorem State.rungsSound.grantProbe (h : s.rungsSound) (eligible : s.probeEligible n = true) : (s.grantProbe n).rungsSound := by
  obtain ⟨-, -, -, -, -, -, fits⟩ := State.probeEligible_iff.mp eligible
  have marked : s.SameRungs (s.modStream n fun st => { st with probePending := false, probeLive := true }) :=
    s.modStream_sameRungs n fun _ => by rfl
  unfold State.grantProbe; split
  · exact h
  · exact (((h.congr marked).makeRecord _ _ ((marked.top n).symm ▸ fits)).congr (State.withArb_sameRungs _ _)).congr
      (State.windowChanged_sameRungs _ n)

theorem State.rungsSound.grants (k : Nat) : ∀ {s : State}, s.rungsSound → (State.grants k s).rungsSound := by
  induction k with
  | zero => exact id
  | succ k ih =>
    intro s h
    unfold State.grants; split
    · split
      · exact ih (h.grantNormal _)
      · rename_i next; exact ih (h.grantProbe (State.eligible_of_nextProbe next))
      · exact h
    · exact h

theorem State.rungsSound.arbitrate (h : s.rungsSound) : s.arbitrate.rungsSound :=
  State.rungsSound.grants 8 (h.congr (s.forSlots_sameRungs fun m u => u.dryTest_sameRungs m))

theorem State.rungsSound.settle (h : s.rungsSound) (b : State) : (s.settle b).rungsSound := by
  unfold State.settle; split
  · exact h.arbitrate
  · exact h

end Sys2Proof.Machine
end

section
namespace Sys2Proof.Machine

/-! ### Changes of zone (R111, R113, R117, R118, R146) -/

variable {s t u : State} {n : Slot} {st : Stream} {z : Zone}

theorem State.rungsBounded.toZone (h : s.rungsBounded) (z : Zone) : (s.toZone z).rungsBounded :=
  State.rungsBounded.congr (s := { s with cls := { s.cls with zone := z } }) h (State.raiseDeviceIf_sameRungs _ _ _)

/-- A change of zone that is neither into JAMMED nor out of it leaves the step timers right. -/
theorem State.rungsSound.toZone (h : s.rungsSound) (same : z = .jammed ↔ s.cls.zone = .jammed) : (s.toZone z).rungsSound :=
  State.rungsSound.congr (s := { s with cls := { s.cls with zone := z } })
    (State.rungsSound_iff.mpr ⟨h.bounded, fun m => (h.timed m).of_zone same⟩) (State.raiseDeviceIf_sameRungs _ _ _)

theorem State.toZone_zone (s : State) (z : Zone) : (s.toZone z).cls.zone = z := (s.toZone_sameCapacity z).zone

/-- The clamp on entry to JAMMED puts the step timers right; the drops of the PROBE records keep them so (R118). -/
theorem State.rungsBounded.enterJammed (h : s.rungsBounded) : s.enterJammed.rungsSound := by
  have clamped : s.clampAll.rungsSound :=
    (h.fallAll fun n u => u.floor n).congr (State.forSlots_sameRungs _ fun m u => u.modStream_sameRungs m fun _ => by rfl)
  have counted : s.clampAll.choiceTaken.rungsSound := clamped.congr (.of_streams rfl rfl fun _ => rfl)
  rw [State.enterJammed_eq]
  exact List.foldlRecOn (motive := State.rungsSound) _ _ counted fun u hu r _ => hu.failProbe r _

/-- A rise of the zone (R111): into JAMMED the falls stop the step timers; below it the rise leaves them right. -/
theorem State.rungsSound.zoneRise (h : s.rungsSound) (rise : s.cls.zone.code < z.code) : (s.zoneRise z).rungsSound := by
  have timerStopped : s.SameRungs { s with cls := { s.cls with dwellTimer := none } } := .of_streams rfl rfl fun _ => rfl
  have risen := (h.congr timerStopped).bounded.toZone z
  have entered : ∀ {u : State}, u.rungsBounded → (z ≠ .jammed → u.rungsSound) →
      (if z = .jammed then u.enterJammed else u).rungsSound := fun bounded sound => by
    split
    · exact bounded.enterJammed
    · rename_i below; exact sound below
  refine entered ?_ fun below => ?_
  · split
    · exact (risen.fallAll fun n u => (u.stream n).ceiling - 1).bounded
    · exact risen
  · split
    · exact risen.fallAll fun n u => (u.stream n).ceiling - 1
    · refine (h.congr timerStopped).toZone ⟨fun jammed => absurd jammed below, fun jammed => ?_⟩
      exact absurd rise (not_lt.mpr (jammed ▸ Zone.code_le z))

theorem State.rungsSound.classify (h : s.rungsSound) (raw : Zone) : (s.classify raw).rungsSound := by
  have stored : s.SameRungs { s with cls := { s.cls with raw := raw } } := .of_streams rfl rfl fun _ => rfl
  unfold State.classify; dsimp only; split
  · rename_i rise; exact (h.congr stored).zoneRise rise
  · exact h.congr (stored.trans (.of_streams rfl rfl fun _ => rfl))

/-- The selector told of a change of zone puts the step timers right (R146): into JAMMED all stop, out of it all restart, and
with neither they are right already. -/
theorem State.rungsBounded.zoneTold (h : s.rungsBounded) {was : Zone}
    (already : (s.cls.zone = .jammed ↔ was = .jammed) → s.rungsSound) : (s.zoneTold was).rungsSound := by
  unfold State.zoneTold
  by_cases unmoved : s.cls.zone = was
  · rw [if_pos unmoved]; exact already (by rw [unmoved])
  by_cases into : s.cls.zone = .jammed
  · rw [if_neg unmoved, if_pos into]
    exact h.forSlots (f := fun n u => { u.stream n with stepTimer := none }) fun n u _ hu =>
      ⟨rfl, ⟨(hu.1 n).1, fun _ => rfl⟩, fun _ => ⟨nofun, fun runs => absurd into runs.2⟩⟩
  by_cases outOf : was = .jammed
  · rw [if_neg unmoved, if_neg into, if_pos outOf]
    exact h.forSlots (f := fun n u => { u.stream n with stepTimer := u.restartedStep (u.stream n) (u.stream n).ceiling })
      fun n u cls hu => cls ▸ (hu.1 n).restarted u (u.stream n).ceiling fun held => ((hu.1 n).1 held).1
  · rw [if_neg unmoved, if_neg into, if_neg outOf]
    exact already ⟨fun jammed => absurd jammed into, fun jammed => absurd jammed outOf⟩

theorem State.rungsSound.linkAct (h : s.rungsSound) (r : LinkReq) : (s.linkAct r).rungsSound := by
  have classified := (h.congr (s.sagStep_sameRungs r.rtt)).classify (s.cls.rawLevel r.retry r.airtime)
  exact (classified.bounded.zoneTold fun _ => classified).congr (State.linkUsable_sameRungs _ _)

theorem State.rungsSound.dwellAct (h : s.rungsSound) : s.dwellAct.rungsSound := by
  have restarted : s.SameRungs { s with cls := { s.cls with
      dwellTimer := if s.cls.raw.code < s.cls.zone.below.code then some (s.now + s.cls.dwell) else none } } :=
    .of_streams rfl rfl fun _ => rfl
  refine State.rungsSound.congr (((h.congr restarted).bounded.toZone s.cls.zone.below).zoneTold fun same => ?_)
    (State.recomputeUsable_sameRungs _)
  rw [State.toZone_zone] at same
  exact (h.congr restarted).toZone same

/-! ### Reports of a fetch and timers -/

/-- A landing of a live record: a PROBE record's rung is on the ladder (R61, R62, R152). -/
theorem State.rungsSound.landAct (h : s.rungsSound) {r : Record} (mem : r ∈ s.pool.records) (bytes : Nat) :
    (s.landAct r bytes).rungsSound := by
  have moved := (((s.countBytes_sameRungs (bytes - r.reported)).trans (State.freeRecord_sameRungs _ r.tag)).trans
    (State.landEntry_sameRungs _ r.slot r.segment r.rung bytes)).trans (State.contiguousMove_sameRungs _ r.slot)
  have started := moved.trans
    (State.modStream_sameRungs _ r.slot (f := fun st => { st with startLimit := false }) fun _ => by rfl)
  unfold State.landAct State.landingReported; dsimp only; split
  · exact h.congr started
  · exact (h.congr started).probeSuccess ((h.bounded.2 r mem).trans_eq (started.top r.slot).symm)

theorem State.rungsSound.breakAct (h : s.rungsSound) (r : Record) : (s.breakAct r).rungsSound := by
  have freed := s.freeRecord_sameRungs r.tag
  unfold State.breakAct; dsimp only; split
  · exact h.congr (freed.trans (State.failEntry_sameRungs _ _ _))
  · exact (h.congr ((freed.trans (State.returnEntry_sameRungs _ _ _)).trans
      (State.windowChanged_sameRungs _ _))).probeFailure _

theorem State.rungsSound.expireNormal (h : s.rungsSound) (r : Record) : (s.expireNormal r).rungsSound :=
  (h.congr (((s.dropRecord_sameRungs r .deadline).trans (State.failEntry_sameRungs _ _ _)).trans
    (State.raise_sameRungs _ _ _))).fall _ _

theorem State.rungsSound.stallProbe (h : s.rungsSound) (n : Slot) : (s.stallProbe n).rungsSound := by
  unfold State.stallProbe; split
  · exact h.failProbe _ _
  · exact h

theorem State.rungsSound.underrun (h : s.rungsSound) (n : Slot) : (s.underrun n).rungsSound :=
  (((h.congr (s.enterRebuffering_sameRungs n)).fall n _).stallProbe n).congr (State.rescue_sameRungs _ n)

theorem State.rungsSound.drainAct (h : s.rungsSound) (n : Slot) : (s.drainAct n).rungsSound := by
  have drained := h.congr ((s.modStream_sameRungs n fun _ => by rfl).trans (State.reevaluate_sameRungs _ n) :
    s.SameRungs ((s.modStream n Stream.drained).reevaluate n))
  unfold State.drainAct State.drainEnd; dsimp only; split
  · split
    · exact drained.congr (State.endOfPresentation_sameRungs _ n)
    · exact drained.underrun n
  · exact drained

theorem State.startExpiry_sameRungs (s : State) (n : Slot) (c : Prop) [Decidable c] :
    s.SameRungs (if c then ((s.modStream n fun st => { st with startTimer := none }).raise n .startLate).modStream n
        fun st => { st with overdue := true }
      else ((s.modStream n fun st => { st with startTimer := none }).raise n .startLate).enterPlaying n .start) := by
  have raised : s.SameRungs ((s.modStream n fun st => { st with startTimer := none }).raise n .startLate) :=
    (s.modStream_sameRungs n fun _ => by rfl).trans (State.raise_sameRungs _ n _)
  split
  · exact raised.trans (State.modStream_sameRungs _ n fun _ => by rfl)
  · exact raised.trans (State.enterPlaying_sameRungs _ n _)

theorem State.rungsSound.stallExpiry (h : s.rungsSound) (n : Slot) :
    (((s.modStream n fun st => { st with stallTimer := none }).raise n .stallLong).fall n 0).rungsSound :=
  (h.congr ((s.modStream_sameRungs n fun _ => by rfl).trans (State.raise_sameRungs _ n _))).fall n 0

/-- A step timer that runs tells that the ceiling is below the top rung of a ladder (R144). -/
theorem State.rungsSound.below_top_of_running (h : s.rungsSound) (running : (s.stream n).stepTimer.isSome = true) :
    (s.stream n).ceiling < (s.stream n).top := by
  cases held : (s.stream n).hasLadder with
  | false => rw [(h.bounded.1 n).2 held] at running; cases running
  | true => exact ((h.timed n held).mp running).1

/-- An expiry of a step timer that runs: one rung up does not leave the ladder (R145). -/
theorem State.rungsSound.envelopeAct (h : s.rungsSound) (running : (s.stream n).stepTimer.isSome = true) :
    (s.envelopeAct n).rungsSound := by
  have below := h.below_top_of_running running
  have on := h.bounded.1 n
  have raised : (s.modStream n fun st =>
      { st with ceiling := st.ceiling + 1, stepTimer := s.restartedStep st (st.ceiling + 1) }).rungsSound :=
    h.setStream (on.restarted s _ fun _ => below)
  have restarted : (s.modStream n fun st => { st with stepTimer := s.restartedStep st st.ceiling }).rungsSound :=
    h.setStream (on.restarted s (s.stream n).ceiling fun _ => below.le)
  unfold State.envelopeAct; split
  · exact raised
  · exact raised
  · dsimp only
    split
    · exact (restarted.congr (State.modStream_sameRungs _ n fun _ => by rfl)).arbitrate
    · exact restarted
  · exact h

/-! ### Slots that open and close, ladders that are loaded (R4, R8, R28, R136) -/

theorem Stream.onLadder_of_bare (ladder : st.ladder = []) (timer : st.stepTimer = none) (z : Zone) :
    st.onLadder ∧ st.stepTimed z := by
  have bare : st.hasLadder = false := by simp [Stream.hasLadder, ladder]
  exact ⟨⟨fun held => absurd held (by rw [bare]; exact Bool.false_ne_true), fun _ => timer⟩,
    fun held => absurd held (by rw [bare]; exact Bool.false_ne_true)⟩

/-- A stream that has no live record afterwards may hold another ladder. -/
theorem State.rungsSound.replaced (h : s.rungsSound) (e : s.SameElsewhere n t) (zone : t.cls.zone = s.cls.zone)
    (records : ∀ r ∈ t.pool.records, r ∈ s.pool.records ∧ r.slot ≠ n)
    (new : (t.stream n).onLadder ∧ (t.stream n).stepTimed s.cls.zone) : t.rungsSound := by
  refine State.rungsSound_iff.mpr ⟨⟨fun m => ?_, fun r hr => ?_⟩, fun m => zone ▸ ?_⟩
  · by_cases here : m = n
    · exact here ▸ new.1
    · rw [e m here]; exact h.bounded.1 m
  · obtain ⟨old, elsewhere⟩ := records r hr
    rw [e _ elsewhere]; exact h.bounded.2 r old
  · by_cases here : m = n
    · exact here ▸ new.2
    · rw [e m here]; exact h.timed m

/-- A stream that is not active has no live record, and may hold another ladder. -/
theorem State.rungsSound.replaced_of_inactive (h : s.rungsSound) (live : s.InStep) (inactive : (s.stream n).active = false)
    (new : st.onLadder ∧ st.stepTimed s.cls.zone) : (s.setStream n st).rungsSound :=
  h.replaced (s.modStream_elsewhere n fun _ => st) rfl
    (fun r hr => ⟨hr, fun slot => (live.2 n).none_of_inactive inactive r ⟨hr, slot⟩⟩)
    (by rw [State.stream_setStream_same]; exact new)

theorem State.rungsSound.opened (h : s.rungsSound) (live : s.InStep) (closed : (s.stream n).isOpen = false) (c : SlotConfig) :
    (s.modStream n fun st => st.opened c).rungsSound := by
  have state : (s.stream n).state = .closed := by simpa [Stream.isOpen] using closed
  exact h.replaced_of_inactive live (by simp [Stream.active, state]) (Stream.onLadder_of_bare rfl rfl _)

/-- A ladder just loaded has its ceiling at its top rung, and its step timer stopped (R28). -/
theorem Stream.loaded_onLadder (st : Stream) (l : List Rung) (z : Zone) :
    (st.loaded l).onLadder ∧ (st.loaded l).stepTimed z :=
  ⟨⟨fun _ => ⟨Nat.le_refl _, Nat.min_le_right _ _⟩, fun _ => rfl⟩,
    fun _ => ⟨nofun, fun runs => absurd runs.1 (Nat.lt_irrefl _)⟩⟩

theorem State.rungsSound.loaded (h : s.rungsSound) (live : s.InStep) (idle : (s.stream n).state = .idle) (l : List Rung) :
    (s.modStream n fun st => st.loaded l).rungsSound :=
  h.replaced_of_inactive live (by simp [Stream.active, idle]) (Stream.loaded_onLadder _ l _)

/-- A lift takes the ceiling to the top rung and stops the step timer (R8, R147). -/
theorem Stream.onLadder.lifted (on : st.onLadder) (timed : st.stepTimed z) : st.TimedOn z st.lifted := by
  by_cases held : st.hasLadder = true
  · rw [Stream.lifted, if_pos held]
    exact ⟨rfl, ⟨fun _ => ⟨Nat.le_refl _, (on.1 held).2⟩, fun _ => rfl⟩,
      fun _ => ⟨nofun, fun runs => absurd runs.1 (Nat.lt_irrefl _)⟩⟩
  · rw [Stream.lifted, if_neg held]
    exact ⟨rfl, on, timed⟩

theorem Stream.onLadder.tuned (on : st.onLadder) (timed : st.stepTimed z) (r : TuneReq) : st.TimedOn z (st.tuned r) := by
  have stored : st.TimedOn z { st with cfg := SlotConfig.tuned st.cfg r } :=
    ⟨rfl, on.of_selector rfl, timed.of_selector rfl⟩
  unfold Stream.tuned; dsimp only; split
  · obtain ⟨ladder, on', timed'⟩ := stored.onLadder.lifted stored.timed
    exact ⟨ladder.trans stored.ladder, on', timed'⟩
  · exact stored

theorem State.rungsSound.tuned (h : s.rungsSound) (r : TuneReq) : (s.modStream n fun st => st.tuned r).rungsSound :=
  h.setStream ((h.bounded.1 n).tuned (h.timed n) r)

/-- CLOSE frees every record of its stream before the ladder goes (R21). -/
theorem State.rungsSound.closeAct (h : s.rungsSound) (live : s.InStep) : (s.closeAct n).rungsSound := by
  have vacated := s.closeBegun_vacated n
  refine (h.replaced vacated.elsewhere (congrArg Classifier.zone vacated.shell.cls)
    (fun r => (live.1.mem_dropped n .close vacated.pool r).mp) ?_).congr (State.reallocateIf_sameRungs _ _)
  rw [State.closeBegun_stream]
  exact Stream.onLadder_of_bare rfl rfl _

/-- With every slot closed and no record live nothing is left to be bounded. -/
theorem State.rungsSound_of_closed (records : s.pool.records = [])
    (closed : ∀ m, (s.stream m).ladder = [] ∧ (s.stream m).stepTimer = none) : s.rungsSound := by
  have bare := fun m => Stream.onLadder_of_bare (closed m).1 (closed m).2 s.cls.zone
  exact State.rungsSound_iff.mpr ⟨⟨fun m => (bare m).1, by rw [records]; exact nofun⟩, fun m => (bare m).2⟩

theorem State.closeAll_rungsSound (s : State) : s.closeAll.rungsSound :=
  State.rungsSound_of_closed (by rw [State.closeAll_pool]) fun m => by rw [State.closeAll_stream]; exact ⟨rfl, rfl⟩

theorem State.resetLink_rungsSound (none : s.pool.records = []) : s.resetLink.rungsSound :=
  State.rungsSound_of_closed (by rw [State.resetLink_pool, none]) fun m => by rw [State.resetLink_stream]; exact ⟨rfl, rfl⟩

theorem State.reset_rungsSound : State.reset.rungsSound :=
  State.rungsSound_of_closed rfl fun m => by fin_cases m <;> exact ⟨rfl, rfl⟩

end Sys2Proof.Machine
end

section
namespace Sys2Proof.Machine

/-! ### Every command keeps the rungs on the ladder -/

variable {s t : State} (n : Slot)

theorem State.rungsSound.reply (h : s.rungsSound) (k : Byte) (e : Status) (fs : List Byte) : (s.reply k e fs).rungsSound :=
  h.congr (s.reply_sameRungs k e fs)

theorem State.rungsSound.replyState (h : s.rungsSound) : (s.replyState n).rungsSound := h.reply _ _ _

theorem State.rungsSound.reach (h : s.rungsSound) (e : Nat) : (s.reach e).rungsSound := h.congr (s.reach_sameRungs e)

theorem State.rungsSound.offer (h : s.rungsSound) (f : Frame) : (s.offer f).rungsSound := h.congr (s.offer_sameRungs f)

theorem State.rungsSound.popFrame (h : s.rungsSound) : s.popFrame.rungsSound := h.congr s.popFrame_sameRungs

theorem State.rungsSound.takeRequest (h : s.rungsSound) {f : Frame} {act : State → State}
    (ha : ∀ u : State, u.rungsSound → (act u).rungsSound) : (s.takeRequest f act).rungsSound :=
  State.takeRequest_keeps h (h.offer f) fun _ => ha _ (h.offer f).popFrame

/-- A request row acts on a state that has the streams and records of the one it finds. -/
theorem State.rungsSound.request (h : s.rungsSound) {α : Type} {kind : Byte} {body : List Byte}
    {check : State → Except Status α} {act : α → State → State}
    (ha : ∀ a (u : State), s.Quiet u → u.rungsSound → check u = .ok a → (act a u).rungsSound) :
    (s.request kind body check act).rungsSound :=
  State.request_keeps h (h.offer _) (fun _ e => (h.offer _).popFrame.reply kind e [])
    fun _ a passed => ha a _ ((s.offer_quiet _).trans (State.popFrame_quiet _)) (h.offer _).popFrame passed

theorem State.rungsSound.requestIf (h : s.rungsSound) {α : Type} {own : Bool} {kind : Byte} {body : List Byte}
    {check : State → Except Status α} {act : α → State → State}
    (ha : ∀ a (u : State), s.Quiet u → u.rungsSound → check u = .ok a → (act a u).rungsSound) :
    (s.requestIf own kind body check act).rungsSound :=
  State.requestIf_keeps h fun _ => h.request ha

theorem State.rungsSound.whenRunning (h : s.rungsSound) {act : State → State} (ha : (act s).rungsSound) :
    (s.whenRunning act).rungsSound := by
  unfold State.whenRunning; split
  · exact ha
  · exact h

theorem State.rungsSound.atExpiry (h : s.rungsSound) {timer : Option Nat} {act : State → State}
    (ha : ∀ e, timer = some e → (s.reach e).rungsSound → (act (s.reach e)).rungsSound) :
    (s.atExpiry timer act).rungsSound := by
  unfold State.atExpiry; split
  · exact ha _ rfl (h.reach _)
  · exact h

theorem State.rungsSound.startFrame (h : s.rungsSound) (f : TxFrame) (q : List TxFrame) : (s.startFrame f q).rungsSound := by
  have taken : s.SameRungs { s with tx := { queue := q, sending := some ⟨f.line s.groupField,
      5 * (f.line s.groupField).length⟩ } } := .of_streams rfl rfl fun _ => rfl
  have announced := h.congr (taken.trans (State.announce_sameRungs _ f))
  unfold State.startFrame; dsimp only; split
  · exact announced.arbitrate
  · exact announced

/-- Every command keeps the rungs on the ladder. OPEN, LADDER and CLOSE need the records in step: a stream that takes or loses a
ladder has no live record left. -/
theorem State.rungsSound.exec (h : s.rungsSound) (live : s.InStep) (c : Instr) (run : exec c s = .next t) : t.rungsSound := by
  cases c with
  | nrstAssert => obtain rfl := Host.Outcome.next.inj run; exact h.congr (.of_streams rfl rfl fun _ => rfl)
  | nrstRelease =>
    obtain rfl := Host.Outcome.next.inj run
    split
    · exact h.congr (.of_streams rfl rfl fun _ => rfl)
    · exact h
  | timeBaseStart =>
    obtain rfl := Host.Outcome.next.inj run
    split
    · exact State.reset_rungsSound.congr (.of_streams rfl rfl fun _ => rfl)
    · exact h
  | receiveByte b low =>
    obtain rfl := Host.Outcome.next.inj run
    exact h.whenRunning (h.congr (s.receiveByte_sameRungs b low))
  | gapTimerExpiry =>
    obtain rfl := Host.Outcome.next.inj run
    exact h.whenRunning (h.atExpiry fun _ _ hu => hu.congr (State.receiveFault_sameRungs _))
  | unknownKindRequest kind body =>
    obtain rfl := Host.Outcome.next.inj run
    split
    · exact h
    · exact h.takeRequest fun _ hu => hu.reply _ _ _
  | transmitStart =>
    obtain rfl := Host.Outcome.next.inj run
    refine h.whenRunning ?_
    split
    · exact h.startFrame _ _
    · exact h
    · exact h
  | transmitComplete =>
    obtain rfl := Host.Outcome.next.inj run
    exact h.whenRunning (h.congr (.of_streams rfl rfl fun _ => rfl))
  | ident body => obtain rfl := Host.Outcome.next.inj run; exact h.request fun _ _ _ hu _ => hu.reply _ _ _
  | restartStreams body =>
    obtain rfl := Host.Outcome.next.inj run
    exact h.requestIf fun _ u _ _ _ => (u.closeAll_rungsSound.congr (State.setQueue_sameRungs _ _)).reply _ _ _
  | restartAll body =>
    obtain rfl := Host.Outcome.next.inj run
    exact h.requestIf fun _ u _ _ _ =>
      (((State.resetLink_rungsSound (s := u.closeAll) (by rw [State.closeAll_pool])).congr
        (State.setQueue_sameRungs _ [])).reply 0x02 .ok []).congr (State.pushTx_sameRungs _ _)
  | limits body =>
    obtain rfl := Host.Outcome.next.inj run
    exact h.request fun r u _ hu _ => (hu.congr (u.applyLimits_sameRungs r)).arbitrate.reply _ _ _
  | mask body =>
    obtain rfl := Host.Outcome.next.inj run
    exact h.request fun r u _ hu _ =>
      (hu.congr ((u.setMasks_sameRungs r).trans (State.noteIfTurned_sameRungs _ _))).reply _ _ _
  | flags body =>
    obtain rfl := Host.Outcome.next.inj run
    exact h.request fun _ u _ hu _ => (hu.congr u.clearFlags_sameRungs).reply _ _ _
  | queryStream body => obtain rfl := Host.Outcome.next.inj run; exact h.requestIf fun _ _ _ hu _ => hu.reply _ _ _
  | queryLink body => obtain rfl := Host.Outcome.next.inj run; exact h.requestIf fun _ _ _ hu _ => hu.reply _ _ _
  | queryRecord body => obtain rfl := Host.Outcome.next.inj run; exact h.requestIf fun _ _ _ hu _ => hu.reply _ _ _
  | openSlot body =>
    obtain rfl := Host.Outcome.next.inj run
    exact h.request fun r _ same hu passed =>
      (hu.opened (live.quiet same) (State.parse_of_checkOpen passed).2 r.cfg).reply _ _ _
  | tune body => obtain rfl := Host.Outcome.next.inj run; exact h.request fun r _ _ hu _ => (hu.tuned r).reply _ _ _
  | ladder body =>
    obtain rfl := Host.Outcome.next.inj run
    exact h.request fun r _ same hu passed =>
      (hu.loaded (live.quiet same) (State.idle_of_checkLadder passed) r.rungs).reply _ _ _
  | append body =>
    obtain rfl := Host.Outcome.next.inj run
    exact h.request fun r u _ hu _ => (hu.congr ((u.modStream_sameRungs r.slot fun _ => by rfl).trans
      (State.windowChanged_sameRungs _ _))).arbitrate.reply _ _ _
  | play body =>
    obtain rfl := Host.Outcome.next.inj run
    exact h.requestIf fun r u _ hu _ => (hu.congr (u.playAct_sameRungs r.slot)).arbitrate.replyState _
  | pause body =>
    obtain rfl := Host.Outcome.next.inj run
    exact h.requestIf fun r u _ hu _ => (hu.congr (u.pauseAct_sameRungs r.slot)).replyState _
  | seek body =>
    obtain rfl := Host.Outcome.next.inj run
    exact h.requestIf fun r u _ hu _ => ((hu.congr (u.seekAct_sameRungs r.slot)).settle _).replyState _
  | stop body =>
    obtain rfl := Host.Outcome.next.inj run
    exact h.requestIf fun r u _ hu _ => ((hu.congr (u.stopAct_sameRungs r.slot)).settle _).replyState _
  | close body =>
    obtain rfl := Host.Outcome.next.inj run
    refine h.request fun n u same hu _ => ?_
    have closed := hu.closeAct (n := n) (live.quiet same)
    dsimp only
    split
    · exact closed.arbitrate.reply _ _ _
    · exact closed.reply _ _ _
  | position body =>
    obtain rfl := Host.Outcome.next.inj run
    exact h.request fun r u _ hu _ => ((hu.congr ((u.modStream_sameRungs r.1 fun _ => by rfl).trans
      (State.windowChanged_sameRungs _ _))).settle _).reply _ _ _
  | probe body =>
    obtain rfl := Host.Outcome.next.inj run
    exact h.request fun n u _ hu _ => (hu.congr (u.modStream_sameRungs n fun _ => by rfl)).arbitrate.reply _ _ _
  | tally body =>
    obtain rfl := Host.Outcome.next.inj run
    exact h.request fun q u _ hu _ =>
      (hu.congr ((u.countBytes_sameRungs _).trans (State.changeRecord_sameRungs _ q.1.tag
        (g := fun r => { r with reported := q.2, running := true }) fun _ => ⟨rfl, rfl⟩))).reply _ _ _
  | landed body =>
    obtain rfl := Host.Outcome.next.inj run
    exact h.request fun q u _ hu passed => (hu.landAct (u.mem_of_checkCount passed) q.2).arbitrate.reply _ _ _
  | broken body =>
    obtain rfl := Host.Outcome.next.inj run
    exact h.request fun r _ _ hu _ => (hu.breakAct r).arbitrate.reply _ _ _
  | link body =>
    obtain rfl := Host.Outcome.next.inj run
    exact h.request fun r _ _ hu _ => ((hu.linkAct r).settle _).reply _ _ _
  | startTimerExpiry n =>
    obtain rfl := Host.Outcome.next.inj run
    exact h.whenRunning (h.atExpiry fun _ _ hu => hu.congr (State.startExpiry_sameRungs _ n _))
  | stallTimerExpiry n =>
    obtain rfl := Host.Outcome.next.inj run
    exact h.whenRunning (h.atExpiry fun _ _ hu => hu.stallExpiry n)
  | drainStep n =>
    obtain rfl := Host.Outcome.next.inj run
    exact h.whenRunning (h.atExpiry fun _ _ hu => (hu.drainAct n).settle _)
  | deadlineExpiry tag =>
    obtain rfl := Host.Outcome.next.inj run
    refine h.whenRunning ?_
    split
    · split
      · exact ((h.reach _).expireNormal _).arbitrate
      · exact h
    · exact h
  | probeDeadlineExpiry tag =>
    obtain rfl := Host.Outcome.next.inj run
    refine h.whenRunning ?_
    split
    · split
      · exact h
      · exact ((h.reach _).failProbe _ _).arbitrate
    · exact h
  | sampleTimerExpiry =>
    obtain rfl := Host.Outcome.next.inj run
    exact h.whenRunning (h.atExpiry fun _ _ hu => hu.congr (State.sampleAct_sameRungs _))
  | dwellExpiry =>
    obtain rfl := Host.Outcome.next.inj run
    exact h.whenRunning (h.atExpiry fun _ _ hu => hu.dwellAct)
  | envelopeStepExpiry n =>
    obtain rfl := Host.Outcome.next.inj run
    refine h.whenRunning (h.atExpiry fun e running hu => hu.envelopeAct ?_)
    rw [State.reach_stream, running]; rfl

end Sys2Proof.Machine

open Sys2Proof Sys2Proof.Machine

/-- Settles O58: each command keeps the bounds by the few operations that write what they speak of, and an idle step writes none
of it. -/
theorem everyStepKeepsRungsOnTheLadder : Obligations.EveryStepKeepsRungsOnTheLadder := by
  intro s t sound h run
  obtain ⟨pool, -, -, agree, fills⟩ := sound
  have live : s.InStep := State.inStep_iff.mpr ⟨pool, agree, fills⟩
  rcases step_cases run with rfl | ⟨c, rest, -, run⟩
  · exact h.congr s.idle_sameRungs
  · have queued : ({ s with pending := rest } : State).rungsSound := h.congr (.of_streams rfl rfl fun _ => rfl)
    exact queued.exec (live.quiet (.of_streams rfl rfl fun _ => rfl)) c run

end

section
namespace Sys2Proof.Machine

/-! ## The receiver, byte by byte (R157 to R159) -/

variable {s : State} {b kind : Byte} {n : Nat} {got body : List Byte}

/-- A byte with a good stop bit, once the time base runs. -/
theorem State.next_receiveByte_good (running : s.phase = .running) (b : Byte) :
    exec (.receiveByte b false) s = .next (s.takeByte b) :=
  congrArg _ (State.whenRunning_of_running running _)

theorem State.next_receiveByte_of_fault {low : Bool} (running : s.phase = .running)
    (fault : s.receiveByte b low = s.receiveFault) : exec (.receiveByte b low) s = .next s.receiveFault :=
  congrArg _ ((State.whenRunning_of_running running _).trans fault)

/-- A byte with a low stop bit is nothing in HUNT (R158). -/
theorem State.next_receiveByte_low_of_hunt (running : s.phase = .running) (hunting : s.rx.receiver = .hunt) :
    exec (.receiveByte b true) s = .next s := by
  have nothing : s.receiveByte b true = s := (if_pos rfl).trans (if_pos hunting)
  exact congrArg _ ((State.whenRunning_of_running running _).trans nothing)

theorem State.takeByte_of_hunt (h : s.rx.receiver = .hunt) :
    s.takeByte b = if b = syncByte then s.receiverTo .length else s := by
  rw [State.takeByte, h]

theorem State.takeByte_of_length (h : s.rx.receiver = .length) :
    s.takeByte b = if 1 ≤ b.toNat ∧ b.toNat ≤ 250 then s.receiverTo (.body b.toNat []) else s.receiveFault := by
  rw [State.takeByte, h]

/-- A byte of the body is kept; the last one opens CHECK. -/
theorem State.takeByte_of_body (h : s.rx.receiver = .body n got) :
    s.takeByte b = s.receiverTo (if got.length + 1 < n then .body n (got ++ [b]) else .check n (got ++ [b])) := by
  rw [State.takeByte, h, apply_ite s.receiverTo, ← List.length_singleton (a := b), ← List.length_append]

theorem State.takeByte_of_check (h : s.rx.receiver = .check n (kind :: body)) :
    s.takeByte b = if b = crc8 (byte n :: kind :: body) then (s.receiverTo .hunt).frameComplete ⟨kind, body⟩
      else s.receiveFault := by
  rw [State.takeByte, h]

theorem State.frameComplete_of_room {f : Frame} (room : s.rx.buffer.length < 4) :
    s.frameComplete f = { s with rx := { s.rx with buffer := s.rx.buffer ++ [f] } } := if_pos room

/-- The receiver hunts again, the frame at the tail of the receive buffer (R157, R159). -/
theorem State.deliver_eq {f : Frame} (room : s.rx.buffer.length < 4) :
    (s.receiverTo .hunt).frameComplete f =
      { s with rx := { receiver := .hunt, gapTimer := none, buffer := s.rx.buffer ++ [f] } } :=
  State.frameComplete_of_room (s := s.receiverTo .hunt) room

/-- A frame completed while four wait is lost with RX_OVERFLOW (R159). -/
theorem State.frameComplete_of_full {f : Frame} (full : 4 ≤ s.rx.buffer.length) :
    s.frameComplete f = afterDeviceFlag s s.rx 3 :=
  (if_neg (Nat.not_lt.mpr full)).trans (s.raiseDevice_eq .rxOverflow)

/-- A receive fault: the receiver hunts and FRAME_ERR rises, the buffer kept (R158). -/
theorem State.receiveFault_eq (s : State) :
    s.receiveFault = afterDeviceFlag s { receiver := .hunt, gapTimer := none, buffer := s.rx.buffer } 2 :=
  s.raiseDevice_rx { receiver := .hunt, gapTimer := none, buffer := s.rx.buffer } .frameErr

/-- Each of the faults of a byte (R158). -/
theorem State.receiveByte_of_faulty {low : Bool} (h : faultyByte s b low) : s.receiveByte b low = s.receiveFault := by
  rcases h with ⟨rfl, inside⟩ | ⟨rfl, length, bad⟩ | ⟨rfl, n, kind, body, check, bad⟩
  · exact (if_pos rfl).trans (if_neg inside)
  · refine (State.takeByte_of_length length).trans (if_neg fun ⟨one, top⟩ => ?_)
    rcases bad with rfl | long
    · exact Nat.not_succ_le_zero 0 one
    · omega
  · exact (State.takeByte_of_check check).trans (if_neg bad)

/-! ### The bytes of a frame one after the other -/

theorem feedLine_cons (running : s.phase = .running) (bs : List Byte) :
    feedLine (b :: bs) s = feedLine bs (s.takeByte b) := by
  rw [feedLine, State.next_receiveByte_good running]

/-- The rest of the bytes a body waits for takes the receiver to CHECK with all of them collected (R157). -/
theorem feedLine_body {rest : List Byte} (some_left : rest ≠ []) (tail : List Byte) :
    ∀ {s : State} {got : List Byte}, s.phase = .running → got.length + rest.length = n →
      feedLine (rest ++ tail) (s.receiverTo (.body n got)) = feedLine tail (s.receiverTo (.check n (got ++ rest))) := by
  induction rest with
  | nil => exact absurd rfl some_left
  | cons b rest ih =>
    intro s got running length
    rw [List.length_cons] at length
    rw [List.cons_append, feedLine_cons (s := s.receiverTo (.body n got)) running, State.takeByte_of_body rfl]
    cases rest with
    | nil => rw [if_neg (by simp only [List.length_nil] at length; omega)]; rfl
    | cons c rest =>
      rw [if_pos (by rw [List.length_cons] at length; omega)]
      refine (ih (List.cons_ne_nil c rest) (s := s) (got := got ++ [b]) running ?_).trans ?_
      · rw [List.length_append, List.length_singleton]; omega
      · rw [List.append_assoc]; rfl

/-- The bytes of a whole frame, sync to check, deliver it (R157, R159). -/
theorem feedLine_lineBytes (running : s.phase = .running) (hunting : s.rx.receiver = .hunt) (fits : body.length < 250) :
    feedLine (lineBytes kind body) s = .next ((s.receiverTo .hunt).frameComplete ⟨kind, body⟩) := by
  have length : (byte (body.length + 1)).toNat = body.length + 1 := by rw [byte_toNat]; omega
  have line : lineBytes kind body = syncByte :: byte (body.length + 1) ::
      ((kind :: body) ++ [crc8 (byte (body.length + 1) :: kind :: body)]) := rfl
  have sync : s.takeByte syncByte = s.receiverTo .length := (State.takeByte_of_hunt hunting).trans (if_pos rfl)
  have counted : (s.receiverTo .length).takeByte (byte (body.length + 1)) = s.receiverTo (.body (body.length + 1) []) := by
    rw [State.takeByte_of_length rfl, length, if_pos (by omega)]; rfl
  have checked : (s.receiverTo (.check (body.length + 1) (kind :: body))).takeByte
      (crc8 (byte (body.length + 1) :: kind :: body)) = (s.receiverTo .hunt).frameComplete ⟨kind, body⟩ :=
    (State.takeByte_of_check rfl).trans (if_pos rfl)
  rw [line, feedLine_cons running, sync, feedLine_cons (s := s.receiverTo .length) running, counted,
    feedLine_body (List.cons_ne_nil kind body) _ running (by simp), List.nil_append,
    feedLine_cons (s := s.receiverTo (.check _ _)) running, checked]
  rfl

end Sys2Proof.Machine

open Sys2Proof Sys2Proof.Machine

/-- Settles O5: sync and length byte, the body by induction on the bytes it waits for, then the check byte that matches. -/
theorem lineBytesDeliverTheirFrame : Obligations.LineBytesDeliverTheirFrame := by
  intro s kind body running hunting fits room
  rw [feedLine_lineBytes running hunting fits, State.deliver_eq room]

/-- Settles O6: the receiver's state decides, in each the condition on the byte or on the bytes collected. -/
theorem receiverTakesAByteByItsState : Obligations.ReceiverTakesAByteByItsState := by
  intro s b running
  rw [State.next_receiveByte_good running]
  refine ⟨fun hunt other => ?_, fun hunt sync => ?_, fun length one top => ?_, fun n got body more => ?_,
    fun n got body last => ?_, fun n kind body check good room => ?_⟩
  · rw [State.takeByte_of_hunt hunt, syncByte, if_neg other]
  · rw [State.takeByte_of_hunt hunt, syncByte, if_pos sync]; rfl
  · rw [State.takeByte_of_length length, if_pos ⟨one, top⟩]; rfl
  · rw [State.takeByte_of_body body, if_pos more]; rfl
  · rw [State.takeByte_of_body body, if_neg (by omega)]; rfl
  · rw [State.takeByte_of_check check, if_pos good, State.deliver_eq room]

/-- Settles O7: the faults come to one state, the gap timer's expiry among them; a frame behind four is lost. -/
theorem lostFramesRaiseTheirFlag : Obligations.LostFramesRaiseTheirFlag := by
  intro s b low running
  refine ⟨fun faulty => ?_, fun hunt => ?_, fun e timer => ?_, fun timer => ?_, fun n kind body check full => ?_⟩
  · rw [State.next_receiveByte_of_fault running (State.receiveByte_of_faulty faulty), State.receiveFault_eq]
  · exact State.next_receiveByte_low_of_hunt running hunt
  · refine (State.expiry_of_some running timer State.receiveFault).trans ?_
    rw [State.receiveFault_eq, State.reach_rx]
  · exact State.expiry_of_none running timer State.receiveFault
  · rw [State.next_receiveByte_good running, State.takeByte_of_check check, if_pos rfl,
      State.frameComplete_of_full (s := s.receiverTo .hunt) full]
    rfl

end

section
namespace Sys2Proof.Machine

/-! ## Commands that carry a frame -/

variable {s : State} {c : Instr} {f : Frame} {n : Slot}

/-- A request row takes its frame, or is ill formed and no event: of a shared kind and another row's frame, or an unknown kind
that is a request kind (log entry 3). -/
theorem exec_of_requestFrame (s : State) (carried : requestFrame c = some f) :
    (∃ act, exec c s = .next (s.takeRequest f act)) ∨ (c.wf = false ∧ exec c s = .next s) := by
  have shared : ∀ {α : Type} (own : Bool) (kind : Byte) (body : List Byte) (check : State → Except Status α)
      (act : α → State → State),
      (∃ taken, (Host.Outcome.next (s.requestIf own kind body check act) : Out) =
          .next (s.takeRequest ⟨kind, body⟩ taken)) ∨
        ((bodyFits body && own) = false ∧ (Host.Outcome.next (s.requestIf own kind body check act) : Out) = .next s) := by
    intro α own kind body check act
    cases own with
    | true => exact .inl ⟨fun s => s.answer kind (check s) act, rfl⟩
    | false => exact .inr ⟨Bool.and_false _, rfl⟩
  cases c with
  | unknownKindRequest kind body =>
    cases carried
    cases known : requestKinds.contains kind with
    | true =>
      refine .inr ⟨?_, congrArg _ (if_pos known)⟩
      change (bodyFits body && !requestKinds.contains kind) = false
      rw [known]; exact Bool.and_false _
    | false => exact .inl ⟨_, congrArg _ (if_neg (by rw [known]; exact Bool.false_ne_true))⟩
  | restartStreams | restartAll | queryStream | queryLink | queryRecord | play | pause | seek | stop =>
    cases carried; exact shared _ _ _ _ _
  | ident | limits | mask | flags | openSlot | tune | ladder | append | close | position | probe | tally | landed | broken
  | link => cases carried; exact .inl ⟨_, rfl⟩
  | _ => cases carried

/-! ## Before the time base starts (R174) -/

theorem State.whenRunning_of_not_running (h : s.phase ≠ .running) (act : State → State) : s.whenRunning act = s := if_neg h

/-- Nothing but NRST and the time base acts before the time base starts (R174). -/
theorem exec_of_not_running (h : s.phase ≠ .running) (other : isPowerRow c = false) : exec c s = .next s := by
  have off : ∀ act : State → State, (Host.Outcome.next (s.whenRunning act) : Out) = .next s :=
    fun act => congrArg _ (State.whenRunning_of_not_running h act)
  cases carried : requestFrame c with
  | some f =>
    rcases exec_of_requestFrame s carried with ⟨act, taken⟩ | ⟨-, nothing⟩
    · exact taken.trans (off _)
    · exact nothing
  | none =>
    cases c with
    | nrstAssert | nrstRelease | timeBaseStart => cases other
    | receiveByte | gapTimerExpiry | transmitStart | transmitComplete | startTimerExpiry | stallTimerExpiry | drainStep
    | deadlineExpiry | probeDeadlineExpiry | sampleTimerExpiry | dwellExpiry | envelopeStepExpiry => exact off _
    | _ => cases carried

/-! ## Requests for a CLOSED slot (R160) -/

theorem State.openStream_of_closed {α : Type} {read : Except Status α} {slot : α → Slot} {a : α} (parsed : read = .ok a)
    (closed : (s.stream (slot a)).state = .closed) : s.openStream read slot = .error .noStream := by
  simp only [State.openStream, parsed]
  exact if_neg fun opened => (Stream.isOpen_iff _).mp opened closed

theorem State.checkLadder_of_closed {body : List Byte} {r : LadderReq} (parsed : parseLadder body = .ok r)
    (closed : (s.stream r.slot).state = .closed) : s.checkLadder body = .error .noStream := by
  rw [State.checkLadder, State.openStream_of_closed parsed closed]

theorem State.checkPosition_of_closed {body : List Byte} {r : PositionReq} (parsed : parsePosition body = .ok r)
    (closed : (s.stream r.slot).state = .closed) : s.checkPosition body = .error .noStream := by
  rw [State.checkPosition, State.openStream_of_closed parsed closed]

theorem State.checkProbe_of_closed (closed : (s.stream n).state = .closed) : s.checkProbe [byte n.val] = .error .noStream := by
  rw [State.checkProbe, State.openStream_of_closed (parseSlot_byte n) closed]

/-- The field checks of an APPEND that read the stream find nothing to refuse without a ladder and an append origin (R35). -/
theorem State.checkAppend_of_closed {body : List Byte} {r : AppendReq} (parsed : parseAppend body = .ok r)
    (closed : (s.stream r.slot).state = .closed) (bare : (s.stream r.slot).ladder = [])
    (fresh : (s.stream r.slot).origin = none) : s.checkAppend body = .error .noStream := by
  have fields : (s.stream r.slot).appendFields r.entries = true := by simp [Stream.appendFields, Stream.hasLadder, bare, fresh]
  have shut : (s.stream r.slot).isOpen = false := by simp [Stream.isOpen, closed]
  simp [State.checkAppend, parsed, fields, shut]

theorem State.checkQuery_stream_of_closed {body : List Byte} {p : StreamPart} (parsed : parseQuery body = .ok (.stream n p))
    (closed : (s.stream n).state = .closed) : s.checkQuery body = .error .noStream := by
  simp only [State.checkQuery, parsed]
  exact if_neg fun opened => (Stream.isOpen_iff _).mp opened closed

/-- Each PLAYCTL for a CLOSED slot is NO_STREAM, whatever its action (R10). -/
theorem State.next_playctl_of_closed {a : PlayAction} {allowed : Stream → Bool} {act : PlayctlReq → State → State}
    (closed : (s.stream n).state = .closed) (door : s.atDoor ⟨0x14, playctlBody n a⟩) :
    (Host.Outcome.next (s.requestIf (playctlRow a (playctlBody n a)) 0x14 (playctlBody n a)
      (fun s => s.checkPlayctl (playctlBody n a) allowed) act) : Out) =
      .next (s.popFrame.pushTx (.reply 0x94 [0x04])) := by
  have refused : s.popFrame.checkPlayctl (playctlBody n a) allowed = .error .noStream := by
    rw [State.checkPlayctl, State.openStream_of_closed (s := s.popFrame) (slot := PlayctlReq.slot)
      (parsePlayctl_playctlBody n a) closed]
  rw [State.requestIf, playctlRow_playctlBody, if_pos rfl]
  exact State.next_request_of_error (check := fun s => s.checkPlayctl _ allowed) door refused

/-! ## The STREAM and LINK views (R168 to R170) -/

theorem State.execQueryStream_eq {body : List Byte} {p : StreamPart} (s : State)
    (parsed : parseQuery body = .ok (.stream n p)) : exec (.queryStream body) s =
      .next (s.request 0x06 body (fun s => s.checkQuery body) fun view s => s.reply 0x06 .ok view) := by
  have own : queryStreamRow body = true := by rw [queryStreamRow, parsed]
  change execQueryStream _ s = _
  rw [execQueryStream, State.requestIf, if_pos own]

/-- The STREAM view of an open slot is answered with the part it asks for. -/
theorem State.next_queryStream_of_open {body : List Byte} {p : StreamPart} (opened : (s.stream n).state ≠ .closed)
    (door : s.atDoor ⟨0x06, body⟩) (parsed : parseQuery body = .ok (.stream n p)) :
    exec (.queryStream body) s = .next (s.popFrame.pushTx (.reply 0x86 (0x00 :: s.streamView n p))) := by
  have view : s.popFrame.checkQuery body = .ok (s.streamView n p) := by
    simp only [State.checkQuery, parsed]
    exact if_pos ((Stream.isOpen_iff _).mpr opened)
  rw [State.execQueryStream_eq s parsed]
  exact (State.next_request_of_ok (check := fun s => s.checkQuery body) door view).trans rfl

theorem toPart_of_le {part : Byte} (small : part.toNat ≤ 2) : ∃ p, toPart (beNat [part]) = some p := by
  have code : beNat [part] = part.toNat := by simp [beNat]
  refine Option.ne_none_iff_exists'.mp fun none => ?_
  have := (toPart_eq_none_iff _).mp none
  omega

/-! ### The fields of a view, each cut to the bytes it has -/

theorem beNat_one_mod (n : Nat) : beNat [byte n] = n % 256 := by
  simp only [beNat, List.foldl_cons, List.foldl_nil, byte_toNat]; omega

theorem beNat_three_mod (n : Nat) : beNat [byte (n / 65536), byte (n / 256), byte n] = n % 2 ^ 24 := by
  simp only [beNat, List.foldl_cons, List.foldl_nil, byte_toNat]; omega

theorem beNat_four_mod (n : Nat) :
    beNat [byte (n / 16777216), byte (n / 65536), byte (n / 256), byte n] = n % 2 ^ 32 := by
  simp only [beNat, List.foldl_cons, List.foldl_nil, byte_toNat]; omega

theorem Margin.code_lt (m : Margin) : m.code < 256 := by cases m <;> decide

/-- A rung in a view, 255 without a ladder (R169). -/
theorem Stream.beNat_rung (st : Stream) (r : Nat) :
    beNat [if st.hasLadder = true then byte r else 255#8] = if st.ladder = [] then 255 else r % 256 := by
  by_cases bare : st.ladder = []
  · rw [if_pos bare, if_neg fun held => (Stream.hasLadder_iff st).mp held bare]; rfl
  · rw [if_neg bare, if_pos ((Stream.hasLadder_iff st).mpr bare), beNat_one_mod]

/-- The tag of a record in a view, 0 where there is none (R169). -/
theorem beNat_tagByte (r : Option Record) : beNat [tagByte r] = (r.map Record.tag).getD 0 % 256 := by
  cases r with
  | none => rfl
  | some r => exact beNat_one_mod r.tag

/-- A window entry in the STREAM view, its bytes written out (R169). -/
theorem WindowEntry.view_eq (e : WindowEntry) : e.view =
    match e.state with
    | .waiting => beBytes 4 e.segment ++ [0, byte e.failures, 0xFF, 0, 0, 0, 0]
    | .inFlight rung => beBytes 4 e.segment ++ [1, byte e.failures, byte rung, 0, 0, 0, 0]
    | .landedEarly rung bytes => beBytes 4 e.segment ++ [2, byte e.failures, byte rung] ++ beBytes 4 bytes := by
  unfold WindowEntry.view
  cases e.state with
  | waiting => rfl
  | inFlight rung => rfl
  | landedEarly rung bytes => simp only [List.append_assoc, List.cons_append, List.nil_append]

end Sys2Proof.Machine

open Sys2Proof Sys2Proof.Machine

/-- Settles O4: before the time base starts every other command is no event; the power rows by the phase they find. -/
theorem nrstAndTimeBaseStart : Obligations.NrstAndTimeBaseStart :=
  ⟨fun _ _ off other => exec_of_not_running off other, fun _ =>
    ⟨rfl, fun held => congrArg _ (if_pos held), fun other => congrArg _ (if_neg other),
      fun waiting => congrArg _ (if_pos waiting), fun other => congrArg _ (if_neg other)⟩⟩

/-- Settles O13: each row asks for an open slot before any check of its state, APPEND after its fields. -/
theorem closedSlotsAreRefused : Obligations.ClosedSlotsAreRefused := by
  intro s n closed bare fresh
  refine ⟨fun r slot ok door => ?_, fun body r parsed slot door => ?_, fun body r parsed slot door => ?_,
    State.next_playctl_of_closed closed, State.next_playctl_of_closed closed, State.next_playctl_of_closed closed,
    State.next_playctl_of_closed closed, fun door => ?_, fun body r parsed slot door => ?_, fun door => ?_,
    fun part small door => ?_⟩
  · subst slot
    exact State.next_request_of_error (check := fun s => s.openStream _ TuneReq.slot) door
      (State.openStream_of_closed (s := s.popFrame) (parseTune_tuneBody ok) closed)
  · subst slot
    exact State.next_request_of_error (check := fun s => s.checkLadder body) door
      (State.checkLadder_of_closed (s := s.popFrame) parsed closed)
  · subst slot
    exact State.next_request_of_error (check := fun s => s.checkAppend body) door
      (State.checkAppend_of_closed (s := s.popFrame) parsed closed bare fresh)
  · exact State.next_request_of_error (check := fun s => s.openStream _ id) door
      (State.openStream_of_closed (s := s.popFrame) (parseSlot_byte n) closed)
  · subst slot
    exact State.next_request_of_error (check := fun s => s.checkPosition body) door
      (State.checkPosition_of_closed (s := s.popFrame) parsed closed)
  · exact State.next_request_of_error (check := fun s => s.checkProbe _) door
      (State.checkProbe_of_closed (s := s.popFrame) closed)
  · obtain ⟨p, named⟩ := toPart_of_le small
    have parsed := parseQuery_stream n p part named
    rw [State.execQueryStream_eq s parsed]
    exact State.next_request_of_error (check := fun s => s.checkQuery _) door
      (State.checkQuery_stream_of_closed (s := s.popFrame) parsed closed)

/-- Settles O14: the row's one answer; the kinds from 0x60 to 0x64 and from 0x80 on are not among the request kinds. -/
theorem unknownKindsAreAnswered : Obligations.UnknownKindsAreAnswered := by
  refine ⟨fun s kind body unknown door => ?_, by decide⟩
  have taken : exec (.unknownKindRequest kind body) s =
      .next (s.takeRequest ⟨kind, body⟩ fun s => s.reply kind .unknownKind [kind]) :=
    congrArg _ (if_neg (by rw [unknown]; exact Bool.false_ne_true))
  rw [taken, State.takeRequest_of_atDoor door]
  rfl

/-- Settles O15: a body is empty or refused by its length. -/
theorem identNamesThePart : Obligations.IdentNamesThePart := by
  refine fun s body door => ⟨fun empty => ?_, fun some_left => ?_⟩
  · exact (State.next_request_of_ok (check := fun _ => parseEmpty body) (a := ()) door (if_pos empty)).trans rfl
  · exact State.next_request_of_error (check := fun _ => parseEmpty body) door (if_neg some_left)

/-- Settles O21: the summary by the bytes of each field, window and buffer entry by entry. -/
theorem streamViewReportsTheStream : Obligations.StreamViewReportsTheStream := by
  intro s n opened
  refine ⟨fun door => ⟨s.streamView n .summary, ?_, State.next_queryStream_of_open opened door
    (parseQuery_stream n .summary 0 rfl), ?_⟩, fun door => ?_, fun door => ?_⟩
  · simp [State.streamView, State.summaryView]
  · have slot : n.val < 256 := by omega
    have part : beNat [0#8] = 0 := rfl
    simp [State.streamView, State.summaryView, beNat_one_mod, beNat_three_mod, beNat_four_mod, slot, part, Margin.code_lt,
      Stream.beNat_rung, beNat_tagByte]
  · rw [State.next_queryStream_of_open opened door (parseQuery_stream n .window 1 rfl), State.streamView,
      Stream.windowView, funext WindowEntry.view_eq]
    rfl
  · rw [State.next_queryStream_of_open opened door (parseQuery_stream n .buffer 2 rfl), State.streamView,
      Stream.bufferView]
    simp

/-- Settles O22: the view as the model writes it. -/
theorem linkViewReportsTheLink : Obligations.LinkViewReportsTheLink := by
  intro s door
  have view : s.popFrame.checkQuery [2] = .ok s.linkView := rfl
  have taken : exec (.queryLink [2]) s =
      .next (s.request 0x06 [2] (fun s => s.checkQuery [2]) fun view s => s.reply 0x06 .ok view) := rfl
  rw [taken, State.next_request_of_ok door view]
  simp [State.reply, State.linkView, replyKind, Status.code, State.liveCount]

end

section
namespace Sys2Proof.Machine

/-! ## The replies in the transmit queue (R161)

Only the answer to a request queues a reply, and nothing but a RESTART ALL takes one away: every operation that a request acts by
leaves their number as it is. -/

variable (s : State) (n : Slot)

theorem State.replies_pushTx (f : TxFrame) : (s.pushTx f).replies = s.replies + if f.isReply then 1 else 0 := by
  rw [State.replies, State.replies, State.pushTx_queue, List.filter_append, List.length_append]
  cases reply : f.isReply <;> simp [reply]

theorem State.replies_pushTx_of_not_reply {f : TxFrame} (h : f.isReply = false) : (s.pushTx f).replies = s.replies := by
  rw [State.replies_pushTx, h]; rfl

theorem State.replies_reply (k : Byte) (e : Status) (fs : List Byte) : (s.reply k e fs).replies = s.replies + 1 :=
  s.replies_pushTx _

/-- Frames that leave the queue are no replies. -/
theorem State.replies_filter {p : TxFrame → Bool} (kept : ∀ f, f.isReply = true → p f = true) :
    (s.setQueue (s.tx.queue.filter p)).replies = s.replies := by
  rw [State.replies, State.replies, State.setQueue_queue, List.filter_filter]
  refine congrArg List.length (List.filter_congr fun f _ => ?_)
  cases reply : f.isReply with
  | true => rw [kept f reply]; rfl
  | false => rfl

theorem State.replies_modStream (f : Stream → Stream) : (s.modStream n f).replies = s.replies := rfl

theorem State.replies_forSlots {act : Slot → State → State} (h : ∀ m u, (act m u).replies = u.replies) :
    (s.forSlots act).replies = s.replies :=
  State.forSlots_keeps State.replies act h s

/-! ### Flags, GATEs and the playout operations -/

theorem State.replies_noteIfTurned (b : State) : (s.noteIfTurned b).replies = s.replies := by
  unfold State.noteIfTurned; split
  · exact s.replies_pushTx_of_not_reply rfl
  · rfl

theorem State.replies_raise (f : StreamFlag) : (s.raise n f).replies = s.replies := by
  unfold State.raise; split
  · rfl
  · exact State.replies_noteIfTurned _ _

theorem State.replies_raiseIf (c : Bool) (f : StreamFlag) : (s.raiseIf c n f).replies = s.replies := by
  cases c with
  | true => exact s.replies_raise n f
  | false => rfl

theorem State.replies_raiseDevice (f : DeviceFlag) : (s.raiseDevice f).replies = s.replies := by
  unfold State.raiseDevice; split
  · rfl
  · exact State.replies_noteIfTurned _ _

theorem State.replies_raiseDeviceIf (c : Bool) (f : DeviceFlag) : (s.raiseDeviceIf c f).replies = s.replies := by
  cases c with
  | true => exact s.replies_raiseDevice f
  | false => rfl

/-- A GATE takes the place of a GATE or joins the tail (R23). -/
theorem State.replies_pushGate (o : Bool) (r : GateReason) : (s.pushGate n o r).replies = s.replies := by
  unfold State.pushGate; split
  · exact length_filter_replaceGate (fun _ _ => rfl) s.tx.queue
  · exact s.replies_pushTx_of_not_reply rfl

theorem State.replies_reevaluate : (s.reevaluate n).replies = s.replies := State.replies_raiseIf _ n _ _

theorem State.replies_enterPlaying (r : GateReason) : (s.enterPlaying n r).replies = s.replies :=
  State.replies_pushGate _ n _ r

theorem State.replies_leavePlaying (r : GateReason) : (s.leavePlaying n r).replies = s.replies := by
  unfold State.leavePlaying; split
  · exact State.replies_pushGate _ n _ r
  · rfl

theorem State.replies_readinessTest : (s.readinessTest n).replies = s.replies := by
  unfold State.readinessTest; split
  · exact s.replies_enterPlaying n _
  · rfl

theorem State.replies_windowChanged : (s.windowChanged n).replies = s.replies :=
  (State.replies_readinessTest _ n).trans (s.replies_reevaluate n)

theorem State.replies_contiguousMove : (s.contiguousMove n).replies = s.replies := State.replies_windowChanged _ n

theorem State.replies_skipEntry (e : WindowEntry) : (s.skipEntry n e).replies = s.replies :=
  (State.replies_contiguousMove _ n).trans (State.replies_raise _ n _)

theorem State.replies_failEntry (seg : Nat) : (s.failEntry n seg).replies = s.replies := by
  unfold State.failEntry; split
  · rfl
  · split
    · exact State.replies_windowChanged _ n
    · exact s.replies_skipEntry n _

theorem State.replies_fall (named : Nat) : (s.fall n named).replies = s.replies := s.replies_modStream n _

theorem State.replies_probeFailure : (s.probeFailure n).replies = s.replies := State.replies_raise _ n _

theorem State.replies_probeSuccess (r : Nat) : (s.probeSuccess n r).replies = s.replies :=
  (State.replies_raise _ n _).trans (State.replies_raiseIf _ n _ _)

theorem State.replies_reallocate : s.reallocate.replies = s.replies := s.replies_forSlots fun _ _ => rfl

theorem State.replies_reallocateIf (c : Bool) : (s.reallocateIf c).replies = s.replies := by
  cases c with
  | true => exact s.replies_reallocate
  | false => rfl

theorem State.replies_recomputeUsable : s.recomputeUsable.replies = s.replies := State.replies_reallocate _

/-! ### Drops and grants -/

/-- A drop withdraws a FETCH or queues a DROP (R56, R58). -/
theorem State.replies_dropRecord (r : Record) (d : DropReason) : (s.dropRecord r d).replies = s.replies := by
  unfold State.dropRecord; dsimp only; split
  · refine (s.freeRecord r.tag).replies_filter fun f reply => ?_
    cases f with
    | reply _ _ => rfl
    | hello _ | fetch _ | drop _ _ | gate _ _ _ | note => cases reply
  · exact State.replies_pushTx_of_not_reply _ rfl

theorem State.replies_dropToWaiting (r : Record) (d : DropReason) : (s.dropToWaiting r d).replies = s.replies :=
  (State.replies_windowChanged _ _).trans (s.replies_dropRecord r d)

theorem State.replies_failProbe (r : Record) (d : DropReason) : (s.failProbe r d).replies = s.replies :=
  (State.replies_probeFailure _ _).trans (s.replies_dropToWaiting r d)

theorem State.replies_failProbes (d : DropReason) (rs : List Record) :
    ∀ s : State, (rs.foldl (fun s r => s.failProbe r d) s).replies = s.replies := by
  induction rs with
  | nil => exact fun _ => rfl
  | cons r rs ih => intro s; rw [List.foldl_cons, ih, State.replies_failProbe]

theorem State.replies_dropFor (d : DropReason) (r : Option Record) : (s.dropFor n d r).replies = s.replies := by
  cases r with
  | none => rfl
  | some r => exact s.replies_dropRecord r d

theorem State.replies_dropStream (d : DropReason) : (s.dropStream n d).replies = s.replies :=
  (State.replies_dropFor _ n d _).trans (s.replies_dropFor n d _)

theorem State.replies_makeRecord (e : WindowEntry) (k : FetchKind) (rung : Nat) :
    (s.makeRecord n e k rung).replies = s.replies := State.replies_pushTx_of_not_reply _ rfl

theorem State.replies_takeDecision (r : Nat) : (s.takeDecision n r).replies = s.replies := State.replies_raiseIf _ n _ _

theorem State.replies_grantNormal : (s.grantNormal n).replies = s.replies := by
  unfold State.grantNormal; split
  · rfl
  · refine (State.replies_windowChanged _ n).trans ?_
    exact (State.replies_makeRecord (s.takeDecision n _) n _ _ _).trans (s.replies_takeDecision n _)

theorem State.replies_grantProbe : (s.grantProbe n).replies = s.replies := by
  unfold State.grantProbe; split
  · rfl
  · exact (State.replies_windowChanged _ n).trans (State.replies_makeRecord _ n _ _ _)

theorem State.replies_grants (k : Nat) : ∀ s : State, (State.grants k s).replies = s.replies := by
  induction k with
  | zero => exact fun _ => rfl
  | succ k ih =>
    intro s
    unfold State.grants; split
    · split
      · exact (ih _).trans (s.replies_grantNormal _)
      · exact (ih _).trans (s.replies_grantProbe _)
      · rfl
    · rfl

theorem State.replies_dryTest : (State.dryTest n s).replies = s.replies := by
  unfold State.dryTest; split
  · exact s.replies_raise n _
  · rfl

theorem State.replies_arbitrate : s.arbitrate.replies = s.replies :=
  (State.replies_grants 8 _).trans (s.replies_forSlots fun m u => u.replies_dryTest m)

theorem State.replies_settle (b : State) : (s.settle b).replies = s.replies := by
  unfold State.settle; split
  · exact s.replies_arbitrate
  · rfl

/-! ### The acts of the requests -/

theorem State.replies_closeAll : s.closeAll.replies = s.replies := State.replies_forSlots _ fun _ _ => rfl

theorem State.replies_purge : s.purge.replies = s.replies := by
  refine s.replies_filter fun f reply => ?_
  cases f with
  | reply _ _ => rfl
  | hello _ | fetch _ | drop _ _ | gate _ _ _ | note => cases reply

theorem State.replies_applyLimits (r : LimitsReq) : (s.applyLimits r).replies = s.replies := by
  have loaded : ((s.writeLimits r).loadStart r.startEstimate).replies = s.replies := by
    unfold State.loadStart; split <;> rfl
  unfold State.applyLimits; dsimp only; split
  · exact (State.replies_recomputeUsable _).trans loaded
  · split
    · exact (State.replies_reallocate _).trans loaded
    · exact loaded

theorem State.replies_setMasks (r : MaskReq) : (s.setMasks r).replies = s.replies := State.replies_forSlots _ fun _ _ => rfl

theorem State.replies_clearFlags : s.clearFlags.replies = s.replies := State.replies_forSlots _ fun _ _ => rfl

theorem State.replies_playAct : (s.playAct n).replies = s.replies := by
  unfold State.playAct; split
  · exact (State.replies_readinessTest _ n).trans (State.replies_reallocate _)
  · split
    · exact State.replies_readinessTest _ n
    · exact s.replies_enterPlaying n _
  all_goals rfl

theorem State.replies_pauseAct : (s.pauseAct n).replies = s.replies := by
  unfold State.pauseAct; split
  · rfl
  · exact s.replies_leavePlaying n _

theorem State.replies_emptyStream (d : DropReason) (g : GateReason) : (s.emptyStream n d g).replies = s.replies := by
  rw [State.emptyStream, State.replies_leavePlaying, State.replies_modStream, State.replies_reevaluate,
    State.replies_modStream, State.replies_dropStream]

theorem State.replies_seekAct : (s.seekAct n).replies = s.replies := by
  rw [State.seekAct, State.replies_readinessTest, State.replies_reallocateIf, State.enterStarting,
    State.replies_modStream, State.replies_modStream, State.replies_emptyStream]

theorem State.replies_stopAct : (s.stopAct n).replies = s.replies := by
  rw [State.stopAct, State.replies_reallocateIf, State.replies_modStream, State.replies_emptyStream]

theorem State.replies_closeAct : (s.closeAct n).replies = s.replies := by
  rw [State.closeAct, State.replies_reallocateIf, State.replies_modStream, State.replies_leavePlaying,
    State.replies_dropStream]

theorem State.replies_landAct (r : Record) (bytes : Nat) : (s.landAct r bytes).replies = s.replies := by
  have landed : ((((s.countBytes (bytes - r.reported)).freeRecord r.tag).landEntry r.slot r.segment r.rung
      bytes).contiguousMove r.slot).replies = s.replies := State.replies_contiguousMove _ r.slot
  unfold State.landAct State.landingReported; dsimp only; split
  · rw [State.replies_modStream, landed]
  · rw [State.replies_probeSuccess, State.replies_modStream, landed]

theorem State.replies_breakAct (r : Record) : (s.breakAct r).replies = s.replies := by
  unfold State.breakAct; dsimp only; split
  · exact State.replies_failEntry _ _ _
  · exact (State.replies_probeFailure _ _).trans (State.replies_windowChanged _ _)

theorem State.replies_toZone (z : Zone) : (s.toZone z).replies = s.replies := State.replies_raiseDeviceIf _ _ _

theorem State.replies_crowdedFall : s.crowdedFall.replies = s.replies := s.replies_forSlots fun m u => u.replies_fall m _

theorem State.replies_clampAll : s.clampAll.replies = s.replies := by
  rw [State.clampAll, State.replies_forSlots _ fun m u => u.replies_modStream m _,
    State.replies_forSlots _ fun m u => u.replies_fall m _]

theorem State.replies_choiceTaken : s.choiceTaken.replies = s.replies := rfl

theorem State.replies_enterJammed : s.enterJammed.replies = s.replies := by
  rw [State.enterJammed_eq, State.replies_failProbes, State.replies_choiceTaken, State.replies_clampAll]

theorem State.replies_zoneRise (z : Zone) : (s.zoneRise z).replies = s.replies := by
  have fallen : ∀ (c : Prop) [Decidable c] (u : State), (if c then u.crowdedFall else u).replies = u.replies :=
    fun c _ u => by
      split
      · exact u.replies_crowdedFall
      · rfl
  have entered : ∀ (c : Prop) [Decidable c] (u : State), (if c then u.enterJammed else u).replies = u.replies :=
    fun c _ u => by
      split
      · exact u.replies_enterJammed
      · rfl
  unfold State.zoneRise; dsimp only
  rw [entered, fallen, State.replies_toZone]
  rfl

theorem State.replies_classify (raw : Zone) : (s.classify raw).replies = s.replies := by
  unfold State.classify; dsimp only; split
  · exact State.replies_zoneRise _ raw
  · rfl

theorem State.replies_zoneTold (was : Zone) : (s.zoneTold was).replies = s.replies := by
  unfold State.zoneTold; split
  · rfl
  · split
    · exact s.replies_forSlots fun _ _ => rfl
    · split
      · exact s.replies_forSlots fun _ _ => rfl
      · rfl

theorem State.replies_linkUsable (b : State) : (s.linkUsable b).replies = s.replies := by
  unfold State.linkUsable; split
  · rfl
  · exact s.replies_recomputeUsable

theorem State.replies_linkAct (r : LinkReq) : (s.linkAct r).replies = s.replies :=
  (State.replies_linkUsable _ _).trans ((State.replies_zoneTold _ _).trans
    ((State.replies_classify _ _).trans (State.replies_raiseDeviceIf _ _ _)))

end Sys2Proof.Machine
end

section
namespace Sys2Proof.Machine

/-! ## The answer to a request (R160, R161) -/

variable {s : State} {kind : Byte} {body : List Byte}

/-- A request for RESTART ALL (R173). -/
def restartAllFrame : Frame := ⟨0x02, [2]⟩

/-- The request of a frame at the door is answered: by the last frame of a queue with one reply more, or for RESTART ALL by the
first of two, and where it is refused with nothing else changed. -/
def State.Answered (s : State) (f : Frame) (out : Out) : Prop :=
  ∃ t status fields, out = .next t ∧
    let reply := TxFrame.reply (replyKind f.kind) (status :: fields)
    (f = restartAllFrame → t.tx.queue = [reply, .hello .restart]) ∧
    (f ≠ restartAllFrame → t.tx.queue.getLast? = some reply ∧ t.replies = s.replies + 1) ∧
    (status ≠ 0x00 → t = s.popFrame.pushTx reply)

/-- A request other than RESTART ALL that ends in its reply is answered, where its act keeps the replies queued before. -/
theorem State.Answered.of_reply {f : Frame} {u v : State} {e : Status} {fields : List Byte} (other : f ≠ restartAllFrame)
    (ends : u = v.reply f.kind e fields) (kept : v.replies = s.replies)
    (refused : e.code ≠ 0x00 → v = s.popFrame) : s.Answered f (.next u) := by
  refine ⟨u, e.code, fields, rfl, fun all => absurd all other, fun _ => ⟨?_, ?_⟩, fun bad => ?_⟩
  · rw [ends, State.reply_queue, List.getLast?_append_cons, List.getLast?_singleton]
  · rw [ends, State.replies_reply, kept]
  · rw [ends, refused bad]; rfl

/-- An act that ends in the OK reply to its kind, with the replies queued before it as they were. -/
def EndsInOk {α : Type} (kind : Byte) (act : α → State → State) : Prop :=
  ∀ a (u : State), ∃ (v : State) (fields : List Byte), act a u = v.reply kind .ok fields ∧ v.replies = u.replies

/-- A request row that fails a check is answered with the status; one that passes is answered where its act ends in OK. -/
theorem State.Answered.request {α : Type} {check : State → Except Status α} {act : α → State → State}
    (door : s.atDoor ⟨kind, body⟩) (other : (⟨kind, body⟩ : Frame) ≠ restartAllFrame) (accepted : EndsInOk kind act) :
    s.Answered ⟨kind, body⟩ (.next (s.request kind body check act)) := by
  cases checked : check s.popFrame with
  | error e => exact .of_reply other (State.request_of_error door checked) rfl fun _ => rfl
  | ok a =>
    obtain ⟨v, fields, ends, kept⟩ := accepted a s.popFrame
    exact .of_reply other ((State.request_of_ok door checked).trans ends) kept fun bad => absurd rfl bad

/-- So is a row that shares its kind, for a frame of its own row. -/
theorem State.Answered.requestIf {α : Type} {own : Bool} {check : State → Except Status α} {act : α → State → State}
    (row : own = true) (door : s.atDoor ⟨kind, body⟩) (other : (⟨kind, body⟩ : Frame) ≠ restartAllFrame)
    (accepted : EndsInOk kind act) : s.Answered ⟨kind, body⟩ (.next (s.requestIf own kind body check act)) := by
  rw [State.requestIf, if_pos row]
  exact .request door other accepted

theorem ne_restartAllFrame (h : kind ≠ 0x02) : (⟨kind, body⟩ : Frame) ≠ restartAllFrame :=
  fun all => h (congrArg Frame.kind all)

/-- The one body that reads as RESTART ALL (R172). -/
theorem body_of_parseRestart_all (h : parseRestart body = .ok .all) : body = [2] := by
  unfold parseRestart at h
  split at h
  · rename_i one
    obtain ⟨x, rfl⟩ := List.length_eq_one_iff.mp one
    have scope : field [x] 0 1 = x.toNat := by simp [beNat]
    rw [scope] at h
    split at h
    · cases h
    · split at h
      · rename_i two; exact congrArg (fun x => [x]) (BitVec.eq_of_toNat_eq (y := 2#8) two)
      · cases h
  · cases h

/-- RESTART ALL's row: its one accepted body, or a malformed one that it refuses (R172, R173; log entry 3). -/
theorem State.Answered.restartAll (row : restartRow .all body = true) (door : s.atDoor ⟨0x02, body⟩) :
    s.Answered ⟨0x02, body⟩ (exec (.restartAll body) s) := by
  have taken : exec (.restartAll body) s = .next (s.request 0x02 body (fun _ => parseRestart body) fun _ s =>
      ((s.closeAll.resetLink.setQueue []).reply 0x02 .ok []).pushTx (.hello .restart)) := congrArg _ (if_pos row)
  rw [taken]
  cases parsed : parseRestart body with
  | error e =>
    refine .of_reply (fun all => ?_) (State.request_of_error door rfl) rfl fun _ => rfl
    rw [show body = [2] from congrArg Frame.body all] at parsed
    cases parsed
  | ok scope =>
    have all : scope = .all := by
      rw [restartRow, parsed] at row
      exact beq_iff_eq.mp row
    subst all
    refine ⟨_, Status.ok.code, [], congrArg _ (State.request_of_ok door rfl), fun _ => rfl, fun other => ?_,
      fun bad => absurd rfl bad⟩
    exact absurd (congrArg (Frame.mk 0x02) (body_of_parseRestart_all parsed)) other

/-- RESTART STREAMS is another frame than RESTART ALL. -/
theorem ne_restartAllFrame_of_streams (row : restartRow .streams body = true) :
    (⟨0x02, body⟩ : Frame) ≠ restartAllFrame := fun all => by
  rw [show body = [2] from congrArg Frame.body all] at row
  cases row

/-- Every request row answers its frame at the door (R160, R161). -/
theorem exec_answered {c : Instr} {f : Frame} (carried : requestFrame c = some f) (wf : c.wf = true)
    (door : s.atDoor f) : s.Answered f (exec c s) := by
  have row : ∀ {own : Bool} {body : List Byte}, (bodyFits body && own) = true → own = true :=
    fun h => (Bool.and_eq_true_iff.mp h).2
  cases c with
  | unknownKindRequest kind body =>
    cases carried
    have unknown : requestKinds.contains kind = false := by simpa using row wf
    have other : kind ≠ 0x02 := by rintro rfl; cases unknown
    refine .of_reply (v := s.popFrame) (e := .unknownKind) (fields := [kind]) (ne_restartAllFrame other) ?_ rfl fun _ => rfl
    rw [if_neg (by rw [unknown]; exact Bool.false_ne_true)]
    exact State.takeRequest_of_atDoor door _
  | ident body => cases carried; exact .request door (ne_restartAllFrame (by decide)) fun _ _ => ⟨_, _, rfl, rfl⟩
  | restartStreams body =>
    cases carried
    exact .requestIf (row wf) door (ne_restartAllFrame_of_streams (row wf))
      fun _ u => ⟨_, _, rfl, (State.replies_purge _).trans u.replies_closeAll⟩
  | restartAll body => cases carried; exact .restartAll (row wf) door
  | limits body =>
    cases carried
    exact .request door (ne_restartAllFrame (by decide))
      fun r u => ⟨_, _, rfl, (State.replies_arbitrate _).trans (u.replies_applyLimits r)⟩
  | mask body =>
    cases carried
    exact .request door (ne_restartAllFrame (by decide))
      fun r u => ⟨_, _, rfl, (State.replies_noteIfTurned _ _).trans (u.replies_setMasks r)⟩
  | flags body =>
    cases carried
    exact .request door (ne_restartAllFrame (by decide)) fun _ u => ⟨_, _, rfl, u.replies_clearFlags⟩
  | queryStream body | queryLink body | queryRecord body =>
    cases carried
    exact .requestIf (row wf) door (ne_restartAllFrame (by decide)) fun _ _ => ⟨_, _, rfl, rfl⟩
  | openSlot body | tune body | ladder body =>
    cases carried; exact .request door (ne_restartAllFrame (by decide)) fun _ _ => ⟨_, _, rfl, rfl⟩
  | append body =>
    cases carried
    exact .request door (ne_restartAllFrame (by decide))
      fun _ _ => ⟨_, _, rfl, (State.replies_arbitrate _).trans (State.replies_windowChanged _ _)⟩
  | play body =>
    cases carried
    exact .requestIf (row wf) door (ne_restartAllFrame (by decide))
      fun r u => ⟨_, _, rfl, (State.replies_arbitrate _).trans (u.replies_playAct r.slot)⟩
  | pause body =>
    cases carried
    exact .requestIf (row wf) door (ne_restartAllFrame (by decide)) fun r u => ⟨_, _, rfl, u.replies_pauseAct r.slot⟩
  | seek body =>
    cases carried
    exact .requestIf (row wf) door (ne_restartAllFrame (by decide))
      fun r u => ⟨_, _, rfl, (State.replies_settle _ _).trans (u.replies_seekAct r.slot)⟩
  | stop body =>
    cases carried
    exact .requestIf (row wf) door (ne_restartAllFrame (by decide))
      fun r u => ⟨_, _, rfl, (State.replies_settle _ _).trans (u.replies_stopAct r.slot)⟩
  | close body =>
    cases carried
    refine .request door (ne_restartAllFrame (by decide)) fun n u => ⟨_, _, rfl, ?_⟩
    split
    · exact (State.replies_arbitrate _).trans (u.replies_closeAct n)
    · exact u.replies_closeAct n
  | position body =>
    cases carried
    exact .request door (ne_restartAllFrame (by decide))
      fun _ _ => ⟨_, _, rfl, (State.replies_settle _ _).trans (State.replies_windowChanged _ _)⟩
  | probe body =>
    cases carried
    exact .request door (ne_restartAllFrame (by decide)) fun _ _ => ⟨_, _, rfl, State.replies_arbitrate _⟩
  | tally body => cases carried; exact .request door (ne_restartAllFrame (by decide)) fun _ _ => ⟨_, _, rfl, rfl⟩
  | landed body =>
    cases carried
    exact .request door (ne_restartAllFrame (by decide))
      fun q u => ⟨_, _, rfl, (State.replies_arbitrate _).trans (u.replies_landAct q.1 q.2)⟩
  | broken body =>
    cases carried
    exact .request door (ne_restartAllFrame (by decide))
      fun r u => ⟨_, _, rfl, (State.replies_arbitrate _).trans (u.replies_breakAct r)⟩
  | link body =>
    cases carried
    exact .request door (ne_restartAllFrame (by decide))
      fun r u => ⟨_, _, rfl, (State.replies_settle _ _).trans (u.replies_linkAct r)⟩
  | _ => cases carried

/-! ## A frame that the decoder cannot take (R159, R160; log entry 2) -/

variable {f : Frame}

theorem State.offer_of_stays (h : s.rx.buffer.head? = some f ∨ s.rx.receiver ≠ .hunt) : s.offer f = s := by
  unfold State.offer
  by_cases head : s.rx.buffer.head? = some f
  · exact if_pos head
  · rw [if_neg head]
    exact if_neg fun arrives => h.resolve_left head arrives.1

theorem State.offer_of_arrives (head : s.rx.buffer.head? ≠ some f) (hunting : s.rx.receiver = .hunt)
    (fits : f.body.length < 250) : s.offer f = s.frameComplete f :=
  (if_neg head).trans (if_pos ⟨hunting, fits⟩)

/-- A frame that the decoder can take once it is offered stood at the door. -/
theorem State.atDoor_of_canTake (running : s.phase = .running) (fits : f.body.length < 250)
    (h : (s.offer f).canTake f = true) : s.atDoor f := by
  obtain ⟨first, short⟩ := of_decide_eq_true h
  by_cases stays : s.rx.buffer.head? = some f ∨ s.rx.receiver ≠ .hunt
  · rw [State.offer_of_stays stays] at first short
    exact ⟨running, short, .inl first⟩
  · obtain ⟨head, hunting⟩ := not_or.mp stays
    have hunting := not_not.mp hunting
    rw [State.offer_of_arrives head hunting fits] at first short
    by_cases room : s.rx.buffer.length < 4
    · rw [State.frameComplete_of_room room] at first short
      cases buffer : s.rx.buffer with
      | nil => exact ⟨running, short, .inr ⟨buffer, hunting, fits⟩⟩
      | cons g rest =>
        rw [buffer] at first head
        exact absurd first head
    · rw [State.frameComplete_of_full (Nat.not_lt.mp room)] at first
      exact absurd first head

theorem State.takeRequest_of_not_atDoor (running : s.phase = .running) (fits : f.body.length < 250)
    (waits : ¬s.atDoor f) (act : State → State) : s.takeRequest f act = s.offer f :=
  (State.whenRunning_of_running running _).trans
    (if_neg fun can => waits (State.atDoor_of_canTake running fits can))

/-- A well-formed request row carries a frame that fits the receiver (R157). -/
theorem fits_of_requestFrame {c : Instr} (carried : requestFrame c = some f) (wf : c.wf = true) : f.body.length < 250 := by
  cases c with
  | unknownKindRequest | restartStreams | restartAll | queryStream | queryLink | queryRecord | play | pause | seek | stop =>
    cases carried; exact of_decide_eq_true (Bool.and_eq_true_iff.mp wf).1
  | ident | limits | mask | flags | openSlot | tune | ladder | append | close | position | probe | tally | landed | broken
  | link => cases carried; exact of_decide_eq_true wf
  | _ => cases carried

/-- Of a frame that the decoder cannot take only the offer remains. -/
theorem exec_of_not_atDoor {c : Instr} (carried : requestFrame c = some f) (wf : c.wf = true) (running : s.phase = .running)
    (waits : ¬s.atDoor f) : exec c s = .next (s.offer f) := by
  rcases exec_of_requestFrame s carried with ⟨act, taken⟩ | ⟨ill, -⟩
  · rw [taken, State.takeRequest_of_not_atDoor running (fits_of_requestFrame carried wf) waits]
  · rw [wf] at ill; cases ill

end Sys2Proof.Machine

open Sys2Proof Sys2Proof.Machine

/-- Settles O11: every row's checks end in a refusal or its act in the reply, and no act queues or takes away another; a frame
that is not taken is offered to the receive buffer. -/
theorem everyRequestIsAnsweredAndARefusalChangesNothing : Obligations.EveryRequestIsAnsweredAndARefusalChangesNothing := by
  intro c f s carried wf
  refine ⟨exec_answered carried wf, fun running waits => ?_⟩
  rw [exec_of_not_atDoor carried wf running waits]
  have fits := fits_of_requestFrame carried wf
  refine ⟨fun stays => ?_, fun head hunting room => ?_, fun head hunting full => ?_⟩
  · rw [State.offer_of_stays stays]
  · rw [State.offer_of_arrives head hunting fits, State.frameComplete_of_room room]
  · rw [State.offer_of_arrives head hunting fits, State.frameComplete_of_full full]

end

section
namespace Sys2Proof.Machine

/-! ## Every mask written, every flag cleared (R177, R180) -/

variable (s : State)

theorem State.setMasks_stream (r : MaskReq) (n : Slot) :
    (s.setMasks r).stream n = { s.stream n with mask := r.stream[n.val] } :=
  State.forSlots_stream _ (fun n st => { st with mask := r.stream[n.val] })
    (fun n u m => by rw [State.stream_modStream]) _ n

theorem State.clearFlags_stream (n : Slot) : s.clearFlags.stream n = { s.stream n with flags := 0 } :=
  State.forSlots_stream _ (fun _ st => { st with flags := 0 }) (fun n u m => by rw [State.stream_modStream]) _ n

theorem State.clearFlags_eq :
    s.clearFlags = { s with dev := { s.dev with flags := 0 }, streams := s.clearFlags.streams } := rfl

/-- With every flag clear no group calls, whatever the masks (R178, R180). -/
theorem State.clearFlags_summary : s.clearFlags.summary = false := by
  rw [Bool.eq_false_iff, ne_eq, State.summary_iff, State.deviceCalls_iff]
  rintro (⟨i, set, -⟩ | ⟨m, calls⟩)
  · rw [State.clearFlags_eq] at set
    exact absurd set (by simp)
  · obtain ⟨i, set, -⟩ := (Stream.calls_iff _).mp calls
    rw [State.clearFlags_stream] at set
    exact absurd set (by simp)

theorem State.flagBytes_eq : s.flagBytes = byte s.dev.flags.toNat :: beBytes 2 (s.stream 0).flags.toNat ++
    beBytes 2 (s.stream 1).flags.toNat ++ beBytes 2 (s.stream 2).flags.toNat ++ beBytes 2 (s.stream 3).flags.toNat := by
  simp [State.flagBytes, slots]

/-- The NOTE that new masks call for joins the tail of a queue that they leave as it was (R177, R178). -/
theorem State.noteIfTurned_setMasks (r : MaskReq) : (s.setMasks r).noteIfTurned s =
    (s.setMasks r).setQueue (s.tx.queue ++ noteFor s (s.setMasks r)) :=
  State.noteIfTurned_eq_setQueue rfl

/-- Neither the frame taken before a change nor the queue and the reply after it play a part in the NOTE that the change calls
for (R178). -/
theorem noteFor_popFrame_reply {s t : State} {q : List TxFrame} {kind : Byte} {st : Status} {fields : List Byte} :
    noteFor s ((t.setQueue q).reply kind st fields) = noteFor s.popFrame t :=
  noteFor_congr (State.summary_congr rfl fun _ => ⟨rfl, rfl⟩) (State.summary_congr rfl fun _ => ⟨rfl, rfl⟩) rfl

end Sys2Proof.Machine

open Sys2Proof Sys2Proof.Machine

/-- Settles O19: the masks stored, then the NOTE by the two summaries, which neither the frame taken nor the reply enters. -/
theorem maskWritesEveryMask : Obligations.MaskWritesEveryMask := by
  intro s r door
  refine ⟨((s.popFrame.setMasks r).noteIfTurned s.popFrame).reply 0x04 .ok [],
    State.next_request_of_ok door (parseMask_maskBody r), ?_⟩
  rw [State.noteIfTurned_setMasks, noteFor_popFrame_reply]
  exact ⟨s.popFrame.setMasks_stream r, rfl⟩

/-- Settles O20: the reply is composed from the flags as they stood, and the cleared flags leave the summary false. -/
theorem flagsReportsAndClears : Obligations.FlagsReportsAndClears := by
  intro s door
  refine ⟨s.popFrame.clearFlags.reply 0x05 .ok s.popFrame.flagBytes,
    State.next_request_of_ok (check := fun _ => parseEmpty []) (a := ()) door rfl,
    s.popFrame.clearFlags_summary, s.popFrame.clearFlags_stream, ?_⟩
  rw [State.flagBytes_eq]
  rfl

end

section
namespace Sys2Proof.Machine

/-! ## The part right after reset (R2, R24, R45, R174) -/

theorem State.reset_stream (n : Slot) : State.reset.stream n = Stream.closed := by fin_cases n <;> rfl

theorem State.reset_vacant (n : Slot) : (State.reset.stream n).Vacant := by
  rw [State.reset_stream]; exact Stream.closed_vacant 0 (BitVec.allOnes 11)

theorem State.reset_windowsOrdered : State.reset.windowsOrdered := fun n => (State.reset_vacant n).ordered

/-- With no record live every slot, being empty, is in step with the pool. -/
theorem State.reset_inStep : State.reset.InStep :=
  ⟨State.reset_queueFits.pool, fun n => (State.reset_vacant n).linked fun _ live => List.not_mem_nil live.1⟩

theorem State.reset_sound : State.reset.sound := by
  obtain ⟨pool, agree, fills⟩ := State.inStep_iff.mp State.reset_inStep
  exact ⟨pool, State.reset_controlled, State.reset_windowsOrdered, agree, fills⟩

end Sys2Proof.Machine

open Sys2Proof Sys2Proof.Machine

/-- Settles O54: each invariant by its own lemma on the reset state. -/
theorem resetIsSound : Obligations.ResetIsSound :=
  ⟨State.reset_sound, State.reset_rungsSound, State.reset_capacityCurrent,
    (State.queueSound_iff _).mpr State.reset_queueFits⟩

end

section
namespace Sys2Proof.Machine

/-! ## One step by the queue of commands -/

variable {s : State}

theorem step_of_pending {c : Instr} {rest : List Instr} (front : s.pending = c :: rest) :
    step s = exec c { s with pending := rest } := by
  rw [step, front]

theorem step_of_no_pending (none : s.pending = []) : step s = .next s.idle := by
  rw [step, none]

end Sys2Proof.Machine

open Sys2Proof Sys2Proof.Machine

/-- Settles O1, by the branch of `step` for a queue that is not empty. -/
theorem stepRunsTheFrontCommand : Obligations.StepRunsTheFrontCommand := fun _ _ _ front => step_of_pending front

end

section
namespace Sys2Proof.Machine

/-! ## The row that a frame's body names (R10, R168, R172; log entry 3) -/

theorem field_first_byte (b : Byte) (bs : List Byte) : field (b :: bs) 0 1 = b.toNat := by simp [beNat]

/-- The scope that a reading of a RESTART gives, 0 where the reading refuses. -/
def scopeRead : Except Status RestartScope → Nat
  | .ok .streams => 1
  | .ok .all => 2
  | .error _ => 0

/-- The action that a reading of a PLAYCTL gives, 0 where the reading refuses. -/
def actionRead : Except Status PlayctlReq → Nat
  | .ok r => (PlayAction.code r.action).toNat
  | .error _ => 0

/-- The view that a reading of a QUERY gives, 0 where the reading refuses. -/
def viewRead : Except Status QueryReq → Nat
  | .ok (.stream _ _) => 1
  | .ok .link => 2
  | .ok (.record _) => 3
  | .error _ => 0

theorem namedScope_eq (body : List Byte) : namedScope body = scopeRead (parseRestart body) := by
  match body with
  | [] => rfl
  | [x] =>
    by_cases one : x = 1
    · subst one; rfl
    · by_cases two : x = 2
      · subst two; rfl
      · have out : field [x] 0 1 ≠ 1 ∧ field [x] 0 1 ≠ 2 := by
          rw [field_first_byte]; exact ⟨BitVec.toNat_ne.mp one, BitVec.toNat_ne.mp two⟩
        rw [(parseRestart_refused [x]).2 rfl (decide_eq_true out)]
        exact if_neg (not_or.mpr ⟨one, two⟩)
  | _ :: _ :: _ => rw [(parseRestart_refused _).1 (by simp)]; rfl

theorem code_of_toAction {a : PlayAction} : ∀ {k : Nat}, toAction k = some a → (PlayAction.code a).toNat = k
  | 0, named => by cases named
  | 1, named | 2, named | 3, named | 4, named => by cases named; rfl
  | k + 5, named => by cases named

theorem namedAction_eq (body : List Byte) : namedAction body = actionRead (parsePlayctl body) := by
  match body with
  | [] => rfl
  | [_] => rfl
  | [slot, x] =>
    have first : field [slot, x] 0 1 = slot.toNat := field_first_byte _ _
    have second : field [slot, x] 1 1 = x.toNat := field_first_byte _ _
    by_cases out : 3 < slot.toNat ∨ x.toNat = 0 ∨ 4 < x.toNat
    · rw [(parsePlayctl_refused _).2 rfl (by rw [first, second]; exact decide_eq_true out), namedAction]
      exact ite_eq_right_iff.mpr fun named => by omega
    · obtain ⟨n, slotNamed⟩ := toSlot_of_le fun big => out (.inl big)
      obtain ⟨a, named⟩ := Option.ne_none_iff_exists'.mp fun none => out (.inr ((toAction_eq_none_iff x.toNat).mp none))
      have read : parsePlayctl [slot, x] = .ok ⟨n, a⟩ := by
        simp [parsePlayctl, first, second, slotNamed, named]
      rw [read, namedAction, if_pos (by omega)]
      exact (code_of_toAction named).symm
  | _ :: _ :: _ :: _ => rw [(parsePlayctl_refused _).1 (by simp)]; rfl

theorem viewRead_of_refused {body : List Byte}
    (bad : lengthFits ⟨0x06, body⟩ = false ∨ outOfRange ⟨0x06, body⟩ = true) : viewRead (parseQuery body) = 0 := by
  cases fits : lengthFits ⟨0x06, body⟩ with
  | false => rw [(parseQuery_refused body).1 fits]; rfl
  | true => rw [(parseQuery_refused body).2 fits (bad.resolve_left (ne_false_of_eq_true fits))]; rfl

theorem outOfRange_query_iff (view : Byte) (rest : List Byte) : outOfRange ⟨0x06, view :: rest⟩ = true ↔
    view.toNat = 0 ∨ 3 < view.toNat ∨
      (view.toNat = 1 ∧ (3 < field (view :: rest) 1 1 ∨ 2 < field (view :: rest) 2 1)) := by
  rw [← field_first_byte view rest]; exact decide_eq_true_iff

/-- A QUERY of three bytes names the STREAM view where slot and part are in range (R168, R169). -/
theorem namedView_stream (slot part : Byte) : namedView [1, slot, part] = viewRead (parseQuery [1, slot, part]) := by
  by_cases out : 3 < slot.toNat ∨ 2 < part.toNat
  · have bad : 3 < field [1, slot, part] 1 1 ∨ 2 < field [1, slot, part] 2 1 := by
      simpa only [field_succ, field_first_byte] using out
    rw [viewRead_of_refused (.inr ((outOfRange_query_iff _ _).mpr (.inr (.inr ⟨rfl, bad⟩))))]
    exact if_neg (by omega)
  · obtain ⟨p, named⟩ := Option.ne_none_iff_exists'.mp fun none => out (.inr ((toPart_eq_none_iff part.toNat).mp none))
    have slotByte : slot = byte slot.toNat := (by simp [byte])
    have read := parseQuery_stream ⟨slot.toNat, by omega⟩ p part (by simpa [beNat] using named)
    rw [← slotByte] at read
    rw [read]
    exact if_pos (by simp; omega)

theorem viewRead_of_long (a b c d : Byte) (rest : List Byte) : viewRead (parseQuery (a :: b :: c :: d :: rest)) = 0 := by
  rw [parseQuery, if_pos (.inr (by simp))]; rfl

theorem namedView_eq (body : List Byte) : namedView body = viewRead (parseQuery body) := by
  match body with
  | [] => rfl
  | view :: rest =>
    by_cases one : view = 1
    · subst one
      match rest with
      | [] | [_] => rfl
      | [slot, part] => exact namedView_stream slot part
      | _ :: _ :: _ :: _ => exact (viewRead_of_long _ _ _ _ _).symm
    · by_cases two : view = 2
      · subst two
        match rest with
        | [] | [_] | [_, _] => rfl
        | _ :: _ :: _ :: _ => exact (viewRead_of_long _ _ _ _ _).symm
      · by_cases three : view = 3
        · subst three
          match rest with
          | [] | [_] | [_, _] => rfl
          | _ :: _ :: _ :: _ => exact (viewRead_of_long _ _ _ _ _).symm
        · have out : view.toNat = 0 ∨ 3 < view.toNat := by bv_omega
          rw [viewRead_of_refused (.inr ((outOfRange_query_iff _ _).mpr (or_assoc.mp (.inl out))))]
          match rest with
          | [] => exact if_neg two
          | [_] => exact if_neg three
          | [_, _] => exact if_neg fun named => one named.1
          | _ :: _ :: _ :: _ => rfl

/-! ### The rows of RESTART, PLAYCTL and QUERY -/

variable (body : List Byte)

theorem namesScope_eq (x : RestartScope) :
    (namedScope body == 0 || namedScope body == scopeRead (.ok x)) = restartRow x body := by
  rw [namedScope_eq, restartRow]
  cases parseRestart body with
  | error => rfl
  | ok y => cases y <;> cases x <;> rfl

theorem namesAction_eq (a : PlayAction) :
    (namedAction body == 0 || namedAction body == (PlayAction.code a).toNat) = playctlRow a body := by
  rw [namedAction_eq, playctlRow]
  cases parsePlayctl body with
  | error => rfl
  | ok r =>
    obtain ⟨n, b⟩ := r
    cases b <;> cases a <;> rfl

theorem ownRow_queryStream : ownRow (.queryStream body) = queryStreamRow body := by
  rw [ownRow, namedView_eq, queryStreamRow]
  cases parseQuery body with
  | error => rfl
  | ok q => cases q <;> rfl

theorem ownRow_queryLink : ownRow (.queryLink body) = queryLinkRow body := by
  rw [ownRow, namedView_eq, queryLinkRow]
  cases parseQuery body with
  | error => rfl
  | ok q => cases q <;> rfl

theorem ownRow_queryRecord : ownRow (.queryRecord body) = queryRecordRow body := by
  rw [ownRow, namedView_eq, queryRecordRow]
  cases parseQuery body with
  | error => rfl
  | ok q => cases q <;> rfl

variable {body}

/-- Every RESTART belongs to one of its two rows. -/
theorem restartRow_all_of_not_streams (streams : ¬restartRow .streams body = true) : restartRow .all body = true := by
  unfold restartRow at streams ⊢
  cases parsed : parseRestart body with
  | error => rfl
  | ok x =>
    rw [parsed] at streams
    cases x with
    | streams => exact absurd rfl streams
    | all => rfl

/-- Every PLAYCTL belongs to one of its four rows. -/
theorem playctlRow_stop_of_not_others (play : ¬playctlRow .play body = true) (pause : ¬playctlRow .pause body = true)
    (seek : ¬playctlRow .seek body = true) : playctlRow .stop body = true := by
  unfold playctlRow at play pause seek ⊢
  cases parsed : parsePlayctl body with
  | error => rfl
  | ok r =>
    rw [parsed] at play pause seek
    obtain ⟨n, a⟩ := r
    cases a with
    | play => exact absurd rfl play
    | pause => exact absurd rfl pause
    | seek => exact absurd rfl seek
    | stop => rfl

/-- Every QUERY belongs to one of its three rows. -/
theorem queryRecordRow_of_not_others (stream : ¬queryStreamRow body = true) (link : ¬queryLinkRow body = true) :
    queryRecordRow body = true := by
  unfold queryStreamRow at stream
  unfold queryLinkRow at link
  unfold queryRecordRow
  cases parsed : parseQuery body with
  | error => rfl
  | ok q =>
    rw [parsed] at stream link
    cases q with
    | stream => exact absurd rfl stream
    | link => exact absurd rfl link
    | record => rfl

/-! ### The decoder's command for a frame (R160, R162) -/

/-- The command carries the frame and is of the row the frame belongs to. -/
def Takes (f : Frame) (c : Instr) : Prop := requestFrame c = some f ∧ ownRow c = true

theorem takes_restart (body : List Byte) : Takes ⟨0x02, body⟩ (commandOf ⟨0x02, body⟩) := by
  change Takes _ (if restartRow .streams body then .restartStreams body else .restartAll body)
  split
  · rename_i row; exact ⟨rfl, (namesScope_eq body .streams).trans row⟩
  · rename_i row; exact ⟨rfl, (namesScope_eq body .all).trans (restartRow_all_of_not_streams row)⟩

theorem takes_query (body : List Byte) : Takes ⟨0x06, body⟩ (commandOf ⟨0x06, body⟩) := by
  change Takes _ (if queryStreamRow body then .queryStream body
    else if queryLinkRow body then .queryLink body else .queryRecord body)
  split
  · rename_i row; exact ⟨rfl, (ownRow_queryStream body).trans row⟩
  · rename_i stream
    split
    · rename_i row; exact ⟨rfl, (ownRow_queryLink body).trans row⟩
    · rename_i link; exact ⟨rfl, (ownRow_queryRecord body).trans (queryRecordRow_of_not_others stream link)⟩

theorem takes_playctl (body : List Byte) : Takes ⟨0x14, body⟩ (commandOf ⟨0x14, body⟩) := by
  change Takes _ (if playctlRow .play body then .play body
    else if playctlRow .pause body then .pause body
    else if playctlRow .seek body then .seek body else .stop body)
  split
  · rename_i row; exact ⟨rfl, (namesAction_eq body .play).trans row⟩
  · rename_i play
    split
    · rename_i row; exact ⟨rfl, (namesAction_eq body .pause).trans row⟩
    · rename_i pause
      split
      · rename_i row; exact ⟨rfl, (namesAction_eq body .seek).trans row⟩
      · rename_i seek
        exact ⟨rfl, (namesAction_eq body .stop).trans (playctlRow_stop_of_not_others play pause seek)⟩

/-- The decoder takes every frame by a command that carries it, of the row it belongs to. -/
theorem takes_commandOf (f : Frame) : Takes f (commandOf f) := by
  obtain ⟨kind, body⟩ := f
  cases known : requestKinds.contains kind with
  | false =>
    rw [Laws.commandOf_unknown body known]
    exact ⟨rfl, by rw [ownRow, known]; rfl⟩
  | true =>
    have listed : kind ∈ requestKinds := List.contains_iff_mem.mp known
    simp only [requestKinds, List.mem_cons, List.not_mem_nil, or_false] at listed
    rcases listed with rfl | rfl | rfl | rfl | rfl | rfl | rfl | rfl | rfl | rfl | rfl | rfl | rfl | rfl | rfl | rfl | rfl | rfl
    any_goals exact ⟨rfl, rfl⟩
    · exact takes_restart body
    · exact takes_query body
    · exact takes_playctl body

/-! ## What is ready or due is what happens now (log entries 4 and 5) -/

variable {s : State} {c : Instr} {f : Frame}

/-- The command of a frame happens where the decoder can take the frame and the command is of its row. -/
theorem State.happensNow_of_takes (takes : Takes f c) {rest : List Frame} (head : s.rx.buffer = f :: rest)
    (room : s.tx.queue.length < 32) : s.happensNow c := by
  obtain ⟨carried, own⟩ := takes
  have happens : ∃ f rest, s.rx.buffer = f :: rest ∧ s.tx.queue.length < 32 ∧ requestFrame c = some f ∧ ownRow c = true :=
    ⟨f, rest, head, room, carried, own⟩
  cases c with
  | gapTimerExpiry | transmitStart | startTimerExpiry | stallTimerExpiry | drainStep | deadlineExpiry | probeDeadlineExpiry
  | sampleTimerExpiry | dwellExpiry | envelopeStepExpiry => cases carried
  | _ => exact happens

theorem State.mem_readyEvents_iff : c ∈ s.readyEvents ↔
    (c = .transmitStart ∧ s.tx.sending = none ∧ s.tx.queue ≠ []) ∨
      ∃ f rest, s.rx.buffer = f :: rest ∧ s.tx.queue.length < 32 ∧ c = commandOf f := by
  unfold State.readyEvents
  rw [List.mem_append]
  refine or_congr ?_ ?_
  · split <;> simp_all
  · cases s.rx.buffer with
    | nil => simp
    | cons f rest => dsimp only; split <;> simp_all

theorem State.mem_streamDue_iff {n : Slot} : c ∈ s.streamDue n ↔
    (c = .startTimerExpiry n ∧ ∃ e ∈ (s.stream n).startTimer, e ≤ s.now) ∨
    (c = .stallTimerExpiry n ∧ ∃ e ∈ (s.stream n).stallTimer, e ≤ s.now) ∨
    (c = .drainStep n ∧ ∃ e ∈ (s.stream n).drainTimer, e ≤ s.now) ∨
    (c = .envelopeStepExpiry n ∧ ∃ e ∈ (s.stream n).stepTimer, e ≤ s.now) := by
  simp only [State.streamDue, List.mem_append, State.mem_ifDue, or_assoc]

theorem State.mem_recordDue_iff {r : Record} : c ∈ s.recordDue r ↔
    c = (if r.isNormal then .deadlineExpiry r.tag else .probeDeadlineExpiry r.tag) ∧ r.deadline ≤ s.now := by
  simp only [State.recordDue, State.mem_ifDue, Option.mem_some_iff, exists_eq_left']

theorem State.mem_dueEvents_iff : c ∈ s.dueEvents ↔
    (c = .gapTimerExpiry ∧ ∃ e ∈ s.rx.gapTimer, e ≤ s.now) ∨
    (c = .sampleTimerExpiry ∧ s.est.sampleTimer ≤ s.now) ∨
    (c = .dwellExpiry ∧ ∃ e ∈ s.cls.dwellTimer, e ≤ s.now) ∨
    (∃ n, c ∈ s.streamDue n) ∨ ∃ r ∈ s.pool.records, c ∈ s.recordDue r := by
  have every : ∀ n : Slot, n ∈ slots := by decide
  simp only [State.dueEvents, List.mem_append, State.mem_ifDue, List.mem_flatMap, Option.mem_some_iff, exists_eq_left',
    every, true_and, or_assoc]

theorem State.happensNow_of_ready (ready : c ∈ s.readyEvents) : s.happensNow c := by
  rcases State.mem_readyEvents_iff.mp ready with ⟨rfl, starts⟩ | ⟨f, rest, head, room, rfl⟩
  · exact starts
  · exact State.happensNow_of_takes (takes_commandOf f) head room

theorem State.happensNow_of_recordDue {r : Record} (mem : r ∈ s.pool.records) (due : c ∈ s.recordDue r) :
    s.happensNow c := by
  obtain ⟨rfl, come⟩ := State.mem_recordDue_iff.mp due
  cases kind : r.isNormal with
  | true => exact ⟨r, mem, rfl, Record.isNormal_iff.mp kind, come⟩
  | false => exact ⟨r, mem, rfl, Record.isNormal_eq_false_iff.mp kind, come⟩

theorem State.happensNow_of_due (due : c ∈ s.dueEvents) : s.happensNow c := by
  rcases State.mem_dueEvents_iff.mp due with ⟨rfl, come⟩ | ⟨rfl, come⟩ | ⟨rfl, come⟩ | ⟨n, stream⟩ | ⟨r, mem, record⟩
  · exact come
  · exact come
  · exact come
  · rcases State.mem_streamDue_iff.mp stream with ⟨rfl, come⟩ | ⟨rfl, come⟩ | ⟨rfl, come⟩ | ⟨rfl, come⟩ <;> exact come
  · exact State.happensNow_of_recordDue mem record

/-- What is ready or due happens at this moment. -/
theorem State.happensNow_of_event (event : c ∈ s.readyEvents ++ s.dueEvents) : s.happensNow c :=
  (List.mem_append.mp event).elim State.happensNow_of_ready State.happensNow_of_due

/-- Where something happens at this moment, something is ready or due: the same event, or for a frame the decoder's own command,
which for a malformed frame may be of another row of its kind. -/
theorem State.exists_event_of_happensNow (happens : s.happensNow c) : ∃ d, d ∈ s.readyEvents ++ s.dueEvents := by
  have ready : ∀ {d}, d ∈ s.readyEvents → ∃ d, d ∈ s.readyEvents ++ s.dueEvents :=
    fun h => ⟨_, List.mem_append_left _ h⟩
  have due : ∀ {d}, d ∈ s.dueEvents → ∃ d, d ∈ s.readyEvents ++ s.dueEvents := fun h => ⟨_, List.mem_append_right _ h⟩
  have stream : ∀ {n d}, d ∈ s.streamDue n → ∃ d, d ∈ s.readyEvents ++ s.dueEvents :=
    fun h => due (State.mem_dueEvents_iff.mpr (.inr (.inr (.inr (.inl ⟨_, h⟩)))))
  have record : ∀ {r : Record}, r ∈ s.pool.records → r.deadline ≤ s.now → ∃ d, d ∈ s.readyEvents ++ s.dueEvents :=
    fun mem come => due (State.mem_dueEvents_iff.mpr
      (.inr (.inr (.inr (.inr ⟨_, mem, State.mem_recordDue_iff.mpr ⟨rfl, come⟩⟩)))))
  cases c with
  | transmitStart => exact ready (State.mem_readyEvents_iff.mpr (.inl ⟨rfl, happens⟩))
  | gapTimerExpiry => exact due (State.mem_dueEvents_iff.mpr (.inl ⟨rfl, happens⟩))
  | sampleTimerExpiry => exact due (State.mem_dueEvents_iff.mpr (.inr (.inl ⟨rfl, happens⟩)))
  | dwellExpiry => exact due (State.mem_dueEvents_iff.mpr (.inr (.inr (.inl ⟨rfl, happens⟩))))
  | startTimerExpiry n => exact stream (State.mem_streamDue_iff.mpr (.inl ⟨rfl, happens⟩))
  | stallTimerExpiry n => exact stream (State.mem_streamDue_iff.mpr (.inr (.inl ⟨rfl, happens⟩)))
  | drainStep n => exact stream (State.mem_streamDue_iff.mpr (.inr (.inr (.inl ⟨rfl, happens⟩))))
  | envelopeStepExpiry n => exact stream (State.mem_streamDue_iff.mpr (.inr (.inr (.inr ⟨rfl, happens⟩))))
  | deadlineExpiry tag => obtain ⟨r, mem, -, -, come⟩ := happens; exact record mem come
  | probeDeadlineExpiry tag => obtain ⟨r, mem, -, -, come⟩ := happens; exact record mem come
  | _ =>
    obtain ⟨f, rest, head, room, -⟩ := happens
    exact ready (State.mem_readyEvents_iff.mpr (.inr ⟨f, rest, head, room, rfl⟩))

/-! ### The passing of time (R156) -/

theorem State.passTime_of_ends {f : Sending} (sending : s.tx.sending = some f) (ends : s.micros + f.left < 1000) :
    s.passTime = { s with micros := s.micros + f.left, pending := [.transmitComplete] } := by
  unfold State.passTime
  rw [sending]
  exact if_pos ends

theorem State.passTime_of_sends_on {f : Sending} (sending : s.tx.sending = some f) (on : 1000 ≤ s.micros + f.left) :
    s.passTime = { s with
      now := s.now + 1, micros := 0,
      tx := { s.tx with sending := some { f with left := f.left - (1000 - s.micros) } } } := by
  unfold State.passTime
  rw [sending]
  exact if_neg (Nat.not_lt.mpr on)

theorem State.passTime_of_silent (silent : s.tx.sending = none) : s.passTime = { s with now := s.now + 1, micros := 0 } := by
  unfold State.passTime
  rw [silent]

end Sys2Proof.Machine

open Sys2Proof Sys2Proof.Machine

/-- Settles O2: the events ready or due all happen now and are none only where nothing happens, so that an idle step takes one up
in any order, or else lets time pass. -/
theorem idlePartTakesUpWhatHappensNow : Obligations.IdlePartTakesUpWhatHappensNow := by
  intro s empty
  rw [step_of_no_pending empty]
  refine ⟨fun off => congrArg _ (State.idle_of_not_running off), fun running => ⟨fun ⟨c, happens⟩ => ?_, fun quiet => ?_⟩⟩
  · obtain ⟨d, event⟩ := State.exists_event_of_happensNow happens
    obtain ⟨taken, mem, idle⟩ := State.idle_of_events running (List.ne_nil_of_mem event)
    exact ⟨taken, State.happensNow_of_event mem, congrArg _ idle⟩
  · have none : s.readyEvents ++ s.dueEvents = [] :=
      List.eq_nil_iff_forall_not_mem.mpr fun c event => quiet c (State.happensNow_of_event event)
    rw [State.idle_of_no_events running none]
    exact ⟨fun _ sending ends => congrArg _ (State.passTime_of_ends sending ends),
      fun _ sending on => congrArg _ (State.passTime_of_sends_on sending on),
      fun silent => congrArg _ (State.passTime_of_silent silent)⟩

end
